-- ==== Sys2Proof/Word.lean ====
section
/-! DEFINITION. The word types of the block (00_scope.md R10, R11): bytes, the 64-bit Tiger word and byte sequences.
Arithmetic on them is BitVec's, modulo 2^n. A RadioGatun word is `BitVec W` with W = 32 or 64. -/

namespace Sys2Proof

/-- A byte: 8 bits (R10). -/
abbrev Byte := BitVec 8

/-- A Tiger word: `TW` = 64 bits (R8). -/
abbrev W64 := BitVec 64

/-- A byte sequence (R15): an operand, a result, a pending block or a context image. -/
abbrev Bytes := List Byte

end Sys2Proof
end

