-- ==== Sys2Proof/Syntax.lean ====
section
/-! DEFINITION. The commands of the block (30_encoding.md): the transaction a host issues, the fields of its code, and
one constructor of Instr per row of spec/opcode_table.json. A command code carries no immediate and no register field
(R71): every operand travels in the transaction, so a constructor's arguments are the transaction's operand bytes and
output length (log 6). -/

namespace Sys2Proof

/-- A command as the host issues it (R70): the 8-bit code, the operand bytes, and the size of the host's output buffer. -/
structure Command where
  cmd    : Byte
  arg    : Bytes
  outlen : Nat
  deriving DecidableEq, Repr

/-- The engines named by the `ENG` field (R72). -/
inductive Engine where
  | tiger | tiger2 | rg32 | rg64
  deriving DecidableEq, Repr

/-- The operations named by the `OP` field (R73). `transform` is OP = 3: COMPRESS on a Tiger engine, ROUND on a
RadioGatun engine. -/
inductive Op where
  | init | absorb | finalize | transform | blank | save | load
  deriving DecidableEq, Repr

/-- Why a command code is illegal (R81): each completes with ILLEGAL_COMMAND (R264). -/
inductive IllegalCode where
  /-- `RSV` is not 000. -/
  | reservedBits
  /-- `OP` = 7. -/
  | reservedOp
  /-- `OP` = 4 with `ENG` 0 or 1: BLANK on a Tiger engine. -/
  | blankOnTiger
  deriving DecidableEq, Repr

/-- The 26 legal commands (R74), in the opcode table's order, each with its transaction's operand and output length. -/
inductive Instr where
  /-- TIGER.INIT, cmd 0x00 (R102). -/
  | tigerInit (arg : Bytes) (outlen : Nat)
  /-- TIGER2.INIT, cmd 0x01 (R103). -/
  | tiger2Init (arg : Bytes) (outlen : Nat)
  /-- RG32.INIT, cmd 0x02 (R220). -/
  | rg32Init (arg : Bytes) (outlen : Nat)
  /-- RG64.INIT, cmd 0x03 (R221). -/
  | rg64Init (arg : Bytes) (outlen : Nat)
  /-- TIGER.ABSORB, cmd 0x04 (R104). -/
  | tigerAbsorb (arg : Bytes) (outlen : Nat)
  /-- TIGER2.ABSORB, cmd 0x05 (R105). -/
  | tiger2Absorb (arg : Bytes) (outlen : Nat)
  /-- RG32.ABSORB, cmd 0x06 (R222). -/
  | rg32Absorb (arg : Bytes) (outlen : Nat)
  /-- RG64.ABSORB, cmd 0x07 (R223). -/
  | rg64Absorb (arg : Bytes) (outlen : Nat)
  /-- TIGER.FINALIZE, cmd 0x08 (R108). -/
  | tigerFinalize (arg : Bytes) (outlen : Nat)
  /-- TIGER2.FINALIZE, cmd 0x09 (R109). -/
  | tiger2Finalize (arg : Bytes) (outlen : Nat)
  /-- RG32.FINALIZE, cmd 0x0A (R226). -/
  | rg32Finalize (arg : Bytes) (outlen : Nat)
  /-- RG64.FINALIZE, cmd 0x0B (R227). -/
  | rg64Finalize (arg : Bytes) (outlen : Nat)
  /-- TIGER.COMPRESS, cmd 0x0C (R150). -/
  | tigerCompress (arg : Bytes) (outlen : Nat)
  /-- TIGER2.COMPRESS, cmd 0x0D (R151). -/
  | tiger2Compress (arg : Bytes) (outlen : Nat)
  /-- RG32.ROUND, cmd 0x0E (R190). -/
  | rg32Round (arg : Bytes) (outlen : Nat)
  /-- RG64.ROUND, cmd 0x0F (R191). -/
  | rg64Round (arg : Bytes) (outlen : Nat)
  /-- RG32.BLANK, cmd 0x12 (R192). -/
  | rg32Blank (arg : Bytes) (outlen : Nat)
  /-- RG64.BLANK, cmd 0x13 (R193). -/
  | rg64Blank (arg : Bytes) (outlen : Nat)
  /-- TIGER.SAVE, cmd 0x14 (R112). -/
  | tigerSave (arg : Bytes) (outlen : Nat)
  /-- TIGER2.SAVE, cmd 0x15 (R113). -/
  | tiger2Save (arg : Bytes) (outlen : Nat)
  /-- RG32.SAVE, cmd 0x16 (R236). -/
  | rg32Save (arg : Bytes) (outlen : Nat)
  /-- RG64.SAVE, cmd 0x17 (R237). -/
  | rg64Save (arg : Bytes) (outlen : Nat)
  /-- TIGER.LOAD, cmd 0x18 (R114). -/
  | tigerLoad (arg : Bytes) (outlen : Nat)
  /-- TIGER2.LOAD, cmd 0x19 (R115). -/
  | tiger2Load (arg : Bytes) (outlen : Nat)
  /-- RG32.LOAD, cmd 0x1A (R238). -/
  | rg32Load (arg : Bytes) (outlen : Nat)
  /-- RG64.LOAD, cmd 0x1B (R239). -/
  | rg64Load (arg : Bytes) (outlen : Nat)
  deriving DecidableEq, Repr

/-- The operand bytes of the transaction. -/
def Instr.arg : Instr → Bytes
  | .tigerInit arg _ => arg
  | .tiger2Init arg _ => arg
  | .rg32Init arg _ => arg
  | .rg64Init arg _ => arg
  | .tigerAbsorb arg _ => arg
  | .tiger2Absorb arg _ => arg
  | .rg32Absorb arg _ => arg
  | .rg64Absorb arg _ => arg
  | .tigerFinalize arg _ => arg
  | .tiger2Finalize arg _ => arg
  | .rg32Finalize arg _ => arg
  | .rg64Finalize arg _ => arg
  | .tigerCompress arg _ => arg
  | .tiger2Compress arg _ => arg
  | .rg32Round arg _ => arg
  | .rg64Round arg _ => arg
  | .rg32Blank arg _ => arg
  | .rg64Blank arg _ => arg
  | .tigerSave arg _ => arg
  | .tiger2Save arg _ => arg
  | .rg32Save arg _ => arg
  | .rg64Save arg _ => arg
  | .tigerLoad arg _ => arg
  | .tiger2Load arg _ => arg
  | .rg32Load arg _ => arg
  | .rg64Load arg _ => arg

/-- The output length of the transaction. -/
def Instr.outlen : Instr → Nat
  | .tigerInit _ outlen => outlen
  | .tiger2Init _ outlen => outlen
  | .rg32Init _ outlen => outlen
  | .rg64Init _ outlen => outlen
  | .tigerAbsorb _ outlen => outlen
  | .tiger2Absorb _ outlen => outlen
  | .rg32Absorb _ outlen => outlen
  | .rg64Absorb _ outlen => outlen
  | .tigerFinalize _ outlen => outlen
  | .tiger2Finalize _ outlen => outlen
  | .rg32Finalize _ outlen => outlen
  | .rg64Finalize _ outlen => outlen
  | .tigerCompress _ outlen => outlen
  | .tiger2Compress _ outlen => outlen
  | .rg32Round _ outlen => outlen
  | .rg64Round _ outlen => outlen
  | .rg32Blank _ outlen => outlen
  | .rg64Blank _ outlen => outlen
  | .tigerSave _ outlen => outlen
  | .tiger2Save _ outlen => outlen
  | .rg32Save _ outlen => outlen
  | .rg64Save _ outlen => outlen
  | .tigerLoad _ outlen => outlen
  | .tiger2Load _ outlen => outlen
  | .rg32Load _ outlen => outlen
  | .rg64Load _ outlen => outlen

end Sys2Proof
end

