-- ==== Sys2Proof/WellFormed.lean ====
section
/-! DEFINITION. Well-formed calls: the contract a command meets by its own text (30_encoding.md R76, R79; CWDV's
"well-formed calls", 90_conflicts.md C4). An ill-formed command is NOT outside the model: the machine runs it and it
completes with OPERAND_LENGTH or SIZE_MISMATCH (60_exceptions.md R265, R268). -/

namespace Sys2Proof

/-- The exact operand length a command requires, in bytes (table of R76); `none` for ABSORB, which takes any length. -/
def Instr.requiredLen : Instr → Option Nat
  | .tigerInit _ _ => some 0
  | .tiger2Init _ _ => some 0
  | .rg32Init _ _ => some 0
  | .rg64Init _ _ => some 0
  | .tigerAbsorb _ _ => none
  | .tiger2Absorb _ _ => none
  | .rg32Absorb _ _ => none
  | .rg64Absorb _ _ => none
  | .tigerFinalize _ _ => some 0
  | .tiger2Finalize _ _ => some 0
  | .rg32Finalize _ _ => some 0
  | .rg64Finalize _ _ => some 0
  | .tigerCompress _ _ => some 88
  | .tiger2Compress _ _ => some 88
  | .rg32Round _ _ => some 244
  | .rg64Round _ _ => some 488
  | .rg32Blank _ _ => some 232
  | .rg64Blank _ _ => some 464
  | .tigerSave _ _ => some 0
  | .tiger2Save _ _ => some 0
  | .rg32Save _ _ => some 0
  | .rg64Save _ _ => some 0
  | .tigerLoad _ _ => some 104
  | .tiger2Load _ _ => some 104
  | .rg32Load _ _ => some 252
  | .rg64Load _ _ => some 496

/-- The digest size FINALIZE requires as `outlen` (R79, R265); `none` for a command that ignores `outlen`. -/
def Instr.requiredOutlen : Instr → Option Nat
  | .tigerInit _ _ => none
  | .tiger2Init _ _ => none
  | .rg32Init _ _ => none
  | .rg64Init _ _ => none
  | .tigerAbsorb _ _ => none
  | .tiger2Absorb _ _ => none
  | .rg32Absorb _ _ => none
  | .rg64Absorb _ _ => none
  | .tigerFinalize _ _ => some 24
  | .tiger2Finalize _ _ => some 24
  | .rg32Finalize _ _ => some 32
  | .rg64Finalize _ _ => some 32
  | .tigerCompress _ _ => none
  | .tiger2Compress _ _ => none
  | .rg32Round _ _ => none
  | .rg64Round _ _ => none
  | .rg32Blank _ _ => none
  | .rg64Blank _ _ => none
  | .tigerSave _ _ => none
  | .tiger2Save _ _ => none
  | .rg32Save _ _ => none
  | .rg64Save _ _ => none
  | .tigerLoad _ _ => none
  | .tiger2Load _ _ => none
  | .rg32Load _ _ => none
  | .rg64Load _ _ => none

/-- The operand has the length the command requires (R76). -/
def Instr.operandLengthOk (i : Instr) : Bool :=
  match i.requiredLen with
  | none => true
  | some n => i.arg.length == n

/-- The output buffer has the size the command requires (R79). -/
def Instr.outlenOk (i : Instr) : Bool :=
  match i.requiredOutlen with
  | none => true
  | some n => i.outlen == n

/-- A well-formed call: both checks hold. -/
def Instr.wellFormed (i : Instr) : Bool :=
  i.operandLengthOk && i.outlenOk

end Sys2Proof
end

