-- ==== Sys2Proof/Decode.lean ====
section
/-! DEFINITION. Decoding of command codes (30_encoding.md R71 to R74, R81, R84), total on every byte and rejecting by
name; then the encoder, written from the same table; then the opcode table's view of a word. -/

namespace Sys2Proof

/-! ## Fields of a code (R71) -/

/-- `cmd[7:5]`, reserved. -/
def rsvField (cmd : Byte) : BitVec 3 := cmd.extractLsb' 5 3

/-- `cmd[4:2]`, the operation. -/
def opField (cmd : Byte) : BitVec 3 := cmd.extractLsb' 2 3

/-- `cmd[1:0]`, the engine. -/
def engField (cmd : Byte) : BitVec 2 := cmd.extractLsb' 0 2

/-- The operation an `OP` field names (R73); `OP` = 7 is reserved. -/
def opOf (op : BitVec 3) : Except IllegalCode Op :=
  if op = 0 then .ok .init
  else if op = 1 then .ok .absorb
  else if op = 2 then .ok .finalize
  else if op = 3 then .ok .transform
  else if op = 4 then .ok .blank
  else if op = 5 then .ok .save
  else if op = 6 then .ok .load
  else .error .reservedOp

/-- The engine an `ENG` field names (R72). -/
def engineOf (eng : BitVec 2) : Engine :=
  if eng = 0 then .tiger
  else if eng = 1 then .tiger2
  else if eng = 2 then .rg32
  else .rg64

/-! ## Decoding -/

/-- `decode(cmd)` of R84: the operation and engine of a code, unless its reserved bits are not zero, its `OP` is 7, or it is
BLANK on a Tiger engine. -/
def decodeCode (cmd : Byte) : Except IllegalCode (Op × Engine) :=
  if rsvField cmd ≠ 0 then .error .reservedBits
  else
    match opOf (opField cmd) with
    | .error r => .error r
    | .ok op =>
      if op = .blank ∧ (engineOf (engField cmd) = .tiger ∨ engineOf (engField cmd) = .tiger2) then .error .blankOnTiger
      else .ok (op, engineOf (engField cmd))

/-- The command an operation and an engine name (map of R74). Total: the two pairs that name no command are rejected here
by the same name as in `decodeCode`. -/
def instrOf (op : Op) (eng : Engine) (arg : Bytes) (outlen : Nat) : Except IllegalCode Instr :=
  match op, eng with
  | .blank, .tiger => .error .blankOnTiger
  | .blank, .tiger2 => .error .blankOnTiger
  | .init, .tiger => .ok (.tigerInit arg outlen)
  | .init, .tiger2 => .ok (.tiger2Init arg outlen)
  | .init, .rg32 => .ok (.rg32Init arg outlen)
  | .init, .rg64 => .ok (.rg64Init arg outlen)
  | .absorb, .tiger => .ok (.tigerAbsorb arg outlen)
  | .absorb, .tiger2 => .ok (.tiger2Absorb arg outlen)
  | .absorb, .rg32 => .ok (.rg32Absorb arg outlen)
  | .absorb, .rg64 => .ok (.rg64Absorb arg outlen)
  | .finalize, .tiger => .ok (.tigerFinalize arg outlen)
  | .finalize, .tiger2 => .ok (.tiger2Finalize arg outlen)
  | .finalize, .rg32 => .ok (.rg32Finalize arg outlen)
  | .finalize, .rg64 => .ok (.rg64Finalize arg outlen)
  | .transform, .tiger => .ok (.tigerCompress arg outlen)
  | .transform, .tiger2 => .ok (.tiger2Compress arg outlen)
  | .transform, .rg32 => .ok (.rg32Round arg outlen)
  | .transform, .rg64 => .ok (.rg64Round arg outlen)
  | .blank, .rg32 => .ok (.rg32Blank arg outlen)
  | .blank, .rg64 => .ok (.rg64Blank arg outlen)
  | .save, .tiger => .ok (.tigerSave arg outlen)
  | .save, .tiger2 => .ok (.tiger2Save arg outlen)
  | .save, .rg32 => .ok (.rg32Save arg outlen)
  | .save, .rg64 => .ok (.rg64Save arg outlen)
  | .load, .tiger => .ok (.tigerLoad arg outlen)
  | .load, .tiger2 => .ok (.tiger2Load arg outlen)
  | .load, .rg32 => .ok (.rg32Load arg outlen)
  | .load, .rg64 => .ok (.rg64Load arg outlen)

/-- The command of a transaction, or why its code is illegal (R84). The operand and the output length are taken as
delivered: they are not part of the code (R82). -/
def decode (c : Command) : Except IllegalCode Instr :=
  match decodeCode c.cmd with
  | .error r => .error r
  | .ok (op, eng) => instrOf op eng c.arg c.outlen

/-! ## Encoding -/

/-- The `OP` field of an operation (R73). -/
def opCode : Op → BitVec 3
  | .init => 0
  | .absorb => 1
  | .finalize => 2
  | .transform => 3
  | .blank => 4
  | .save => 5
  | .load => 6

/-- The `ENG` field of an engine (R72). -/
def engCode : Engine → BitVec 2
  | .tiger => 0
  | .tiger2 => 1
  | .rg32 => 2
  | .rg64 => 3

/-- `cmd = RSV * 32 + OP * 4 + ENG` with `RSV` = 0 (R71): the three fields side by side. -/
def encodeCode (op : Op) (eng : Engine) : Byte := (0#3 ++ opCode op) ++ engCode eng

/-- The operation and engine of a command (map of R74). -/
def opEngine : Instr → Op × Engine
  | .tigerInit _ _ => (.init, .tiger)
  | .tiger2Init _ _ => (.init, .tiger2)
  | .rg32Init _ _ => (.init, .rg32)
  | .rg64Init _ _ => (.init, .rg64)
  | .tigerAbsorb _ _ => (.absorb, .tiger)
  | .tiger2Absorb _ _ => (.absorb, .tiger2)
  | .rg32Absorb _ _ => (.absorb, .rg32)
  | .rg64Absorb _ _ => (.absorb, .rg64)
  | .tigerFinalize _ _ => (.finalize, .tiger)
  | .tiger2Finalize _ _ => (.finalize, .tiger2)
  | .rg32Finalize _ _ => (.finalize, .rg32)
  | .rg64Finalize _ _ => (.finalize, .rg64)
  | .tigerCompress _ _ => (.transform, .tiger)
  | .tiger2Compress _ _ => (.transform, .tiger2)
  | .rg32Round _ _ => (.transform, .rg32)
  | .rg64Round _ _ => (.transform, .rg64)
  | .rg32Blank _ _ => (.blank, .rg32)
  | .rg64Blank _ _ => (.blank, .rg64)
  | .tigerSave _ _ => (.save, .tiger)
  | .tiger2Save _ _ => (.save, .tiger2)
  | .rg32Save _ _ => (.save, .rg32)
  | .rg64Save _ _ => (.save, .rg64)
  | .tigerLoad _ _ => (.load, .tiger)
  | .tiger2Load _ _ => (.load, .tiger2)
  | .rg32Load _ _ => (.load, .rg32)
  | .rg64Load _ _ => (.load, .rg64)

/-- The transaction of a command: its code (R74), its operand and its output length (R70). -/
def encode (i : Instr) : Command :=
  { cmd := encodeCode (opEngine i).1 (opEngine i).2, arg := i.arg, outlen := i.outlen }

/-! ## The opcode table's view of a word -/

/-- Byte `k` of an instruction whose bits are `w`, byte 0 the first. -/
def tableByte (w k : Nat) : Byte := BitVec.ofNat 8 (w >>> (8 * k))

/-- How many operand bytes an instruction of `nbits` bits has: exactly what its code requires (R76); for ABSORB and for
an illegal code, the whole bytes of `nbits` after the code. -/
def tableArgLen (nbits : Nat) (cmd : Byte) : Nat :=
  match decode { cmd := cmd, arg := [], outlen := 0 } with
  | .ok i => i.requiredLen.getD (nbits / 8 - 1)
  | .error _ => nbits / 8 - 1

/-- The transaction whose bits are `w`: the code is byte 0, the operand bytes follow it (zero above `w`'s bits), and the
output length is 0 (log 11). -/
def tableCommand (nbits w : Nat) : Command :=
  { cmd := tableByte w 0
    arg := (List.range (tableArgLen nbits (tableByte w 0))).map fun k => tableByte w (k + 1)
    outlen := 0 }

/-- The instruction the decoder reads from a word of the opcode table, `none` where it refuses. -/
def decodeTableWord (nbits w : Nat) : Option Instr :=
  match decode (tableCommand nbits w) with
  | .ok i => some i
  | .error _ => none

end Sys2Proof
end

