-- ==== Sys2Proof/Machine/State.lean ====
section
/-! DEFINITION. The state of the block as plain data (10_state.md): four engine contexts and STATUS, and beside them the
model's own fields for the host's side of the interface. Nothing else persists (R20). -/

namespace Sys2Proof.Machine

/-- The phase of a context (R24). -/
inductive Phase where
  | uninit | ready | accum
  deriving DecidableEq, Repr

/-- The status codes of a command (60_exceptions.md R260), by name. Code 7 is never written (R31). -/
inductive Status where
  | ok | illegalCommand | notInitialized | sizeMismatch | inputTooLarge | badContext | operandLength
  deriving DecidableEq, Repr

/-- The Tiger chaining value: three 64-bit registers `a`, `b`, `c` (R25, R32). -/
structure Chain where
  a : W64
  b : W64
  c : W64
  deriving DecidableEq, Repr

/-- A Tiger or Tiger2 context (R25). `fill` is always `len(pb)` and is not held twice (log 8). -/
structure TigerCtx where
  phase : Phase
  /-- `pending_block`: its `fill` valid bytes, 0 to 63 of them. -/
  pb : Bytes
  /-- `a`, `b`, `c`. -/
  cv : Chain
  /-- `total_length`: the 64-bit count of bytes absorbed. -/
  totalLength : W64
  deriving DecidableEq, Repr

/-- A RadioGatun context with words of `W` bits (R27). -/
structure RGCtx (W : Nat) where
  phase : Phase
  /-- `pending_block`: its `fill` valid bytes, fewer than `3 * W / 8`. -/
  pb : Bytes
  /-- The mill, `a[0..18]`. -/
  mill : Vector (BitVec W) 19
  /-- The belt, `b[i][j]` at the flat index `3 * i + j` (R27, D16). -/
  belt : Vector (BitVec W) 39
  deriving DecidableEq, Repr

/-- The block's answer to one command (30_encoding.md R70). -/
structure Response where
  status : BitVec 3
  res : Bytes
  deriving DecidableEq, Repr

/-- The whole state. The first five fields are the block's (R20); the last three are the MODEL's, for the host's side of
the interface (logs 2 and 3). -/
structure State where
  /-- `ctx[TIGER]`. -/
  tiger : TigerCtx
  /-- `ctx[TIGER2]`. -/
  tiger2 : TigerCtx
  /-- `ctx[RG32]`. -/
  rg32 : RGCtx 32
  /-- `ctx[RG64]`. -/
  rg64 : RGCtx 64
  /-- `STATUS`, 3 bits (R31). -/
  status : BitVec 3
  /-- The host's commands not yet taken, the next one first (R70, 20_memory.md R55). -/
  pending : List Command
  /-- The index of the next command in the host's sequence (R22). -/
  index : Nat
  /-- The response of the most recent command; none before the first. -/
  response : Option Response
  deriving DecidableEq, Repr

/-- Why the machine could stop with a fault: never. The block has no fault that stops it (60_exceptions.md R269,
70_reset_and_hazards.md R295; 93_implementation_defined.md "No behaviour of the block is `stuck`"). A fault of the SPEC is
a status code in the response (R260) and is a next state (log 10). -/
inductive Fault where
  deriving DecidableEq, Repr

/-- Why `exec` could refuse an instruction. -/
inductive Refusal where
  /-- Raised only by an arm of `exec` for an instruction that has no meaning yet; no arm raises it now. Safe: the machine
  stops where the hardware goes on. -/
  | notModelled (mnemonic : String)
  deriving DecidableEq, Repr

/-- A Tiger context after reset (R34): UNINIT; its data fields are unspecified and unobservable, and the model names zero
for them (DESIGN CHOICE, log 1; unsafe). -/
def TigerCtx.atReset : TigerCtx :=
  { phase := .uninit, pb := [], cv := { a := 0, b := 0, c := 0 }, totalLength := 0 }

/-- A RadioGatun context after reset (R34): UNINIT, with zero for its unspecified data fields (DESIGN CHOICE, log 1;
unsafe). -/
def RGCtx.atReset (W : Nat) : RGCtx W :=
  { phase := .uninit, pb := [], mill := Vector.replicate 19 0, belt := Vector.replicate 39 0 }

/-- The machine right after reset (R34, 70_reset_and_hazards.md R290, R291): every context UNINIT, STATUS = 0, and the
block waiting for its first command. -/
def State.reset : State :=
  { tiger := TigerCtx.atReset
    tiger2 := TigerCtx.atReset
    rg32 := RGCtx.atReset 32
    rg64 := RGCtx.atReset 64
    status := 0
    pending := []
    index := 0
    response := none }

end Sys2Proof.Machine
end

