-- ==== Sys2Proof/Machine/Ops.lean ====
section
/-! DEFINITION. The named operations every command is built from: byte order and sequences (00_scope.md R12 to R15),
modular indexing (R17), the codes of phases, statuses and engines, and how a command ends: with its effect, or by raising
a fault (60_exceptions.md R262, R263, R269). -/

namespace Sys2Proof.Machine

/-! ## Words and bytes -/

/-- `byte_k(x)` = `x[8k+7:8k]` (R13). -/
def byteAt {n : Nat} (k : Nat) (x : BitVec n) : Byte := x.extractLsb' (8 * k) 8

/-- The number a byte sequence stands for, its first byte least significant (the sum of R14). -/
def leNat : Bytes → Nat
  | [] => 0
  | x :: s => x.toNat + 256 * leNat s

/-- `s[i..j)`: the bytes i to j-1 (R15). -/
def slice (s : Bytes) (i j : Nat) : Bytes := (s.drop i).take (j - i)

/-- `le_load_n(s, o)` (R14). Bytes past the end of `s` count as zero; no command reads one (log 12). -/
def leLoad (n : Nat) (s : Bytes) (o : Nat) : BitVec n := BitVec.ofNat n (leNat (slice s o (o + n / 8)))

/-- `le_store_n(x)`: the n/8 bytes of x, byte 0 first (R14). -/
def leStore {n : Nat} (x : BitVec n) : Bytes := (List.range (n / 8)).map fun k => byteAt k x

/-- `zeros(n)` (R15). -/
def zeros (n : Nat) : Bytes := List.replicate n 0

/-- `words_n(s)`: the words of a sequence whose length is a multiple of n/8 (R15). -/
def wordsOf (n : Nat) (s : Bytes) : List (BitVec n) :=
  (List.range (s.length / (n / 8))).map fun i => leLoad n s (n / 8 * i)

/-- `bytes_n(l)`: the words of a list, each as `le_store_n`, in order (R15). -/
def bytesOf {n : Nat} (l : List (BitVec n)) : Bytes := l.flatMap leStore

/-- `rotr_n(x, r)` for r < n (R12): bit i moves to bit (i - r) mod n. -/
def rotr {n : Nat} (x : BitVec n) (r : Nat) : BitVec n := (x >>> r) ||| (x <<< ((n - r) % n))

/-- `rotl_n(x, r)` (R12). No command uses it. -/
def rotl {n : Nat} (x : BitVec n) (r : Nat) : BitVec n := rotr x ((n - r) % n)

/-- Word `k` of a word array, the index taken modulo the array's length (R17). -/
def wordAt {W n : Nat} (v : Vector (BitVec W) (n + 1)) (k : Nat) : BitVec W :=
  v[k % (n + 1)]'(Nat.mod_lt k (Nat.succ_pos n))

/-! ## Codes -/

/-- The code of a phase (R24). -/
def phaseCode : Phase → Byte
  | .uninit => 0
  | .ready => 1
  | .accum => 2

/-- The code of a status (R260). -/
def statusCode : Status → BitVec 3
  | .ok => 0
  | .illegalCommand => 1
  | .notInitialized => 2
  | .sizeMismatch => 3
  | .inputTooLarge => 4
  | .badContext => 5
  | .operandLength => 6

/-- The engine's number as a byte, the third byte of its context images (R72, R112, R236). -/
def engineByte : Engine → Byte
  | .tiger => 0
  | .tiger2 => 1
  | .rg32 => 2
  | .rg64 => 3

/-- The first byte of an engine's padding: `PAD_FIRST_BYTE` of the Tiger engines (R100) and `RG_PAD_BYTE` of the
RadioGatun engines (R224). -/
def padByte : Engine → Byte
  | .tiger => 0x01
  | .tiger2 => 0x80
  | .rg32 => 0x01
  | .rg64 => 0x01

/-! ## Fields of the state -/

/-- `fill` of a Tiger context: always `len(pb)` (R25). -/
def TigerCtx.fill (C : TigerCtx) : Nat := C.pb.length

/-- `fill` of a RadioGatun context: always `len(pb)` (R27). -/
def RGCtx.fill {W : Nat} (C : RGCtx W) : Nat := C.pb.length

/-- `ctx[TIGER] <- C`. -/
def State.setTiger (s : State) (C : TigerCtx) : State := { s with tiger := C }

/-- `ctx[TIGER2] <- C`. -/
def State.setTiger2 (s : State) (C : TigerCtx) : State := { s with tiger2 := C }

/-- `ctx[RG32] <- C`. -/
def State.setRg32 (s : State) (C : RGCtx 32) : State := { s with rg32 := C }

/-- `ctx[RG64] <- C`. -/
def State.setRg64 (s : State) (C : RGCtx 64) : State := { s with rg64 := C }

/-- The command at the head of the host's queue is taken: the queue loses it and the index advances by one, whatever its
status will be (R22). -/
def State.take (s : State) (rest : List Command) : State := { s with pending := rest, index := s.index + 1 }

/-! ## How a command ends -/

/-- The response of a command: STATUS and the response carry the same code (R31, R80). -/
def State.respond (s : State) (st : Status) (res : Bytes) : State :=
  { s with status := statusCode st, response := some { status := statusCode st, res := res } }

/-- A command that had its full effect completes with OK and its result (R80, R260). -/
def State.complete (s : State) (res : Bytes) : State := s.respond .ok res

/-- Taking a fault, `raise F` (R262, R263): STATUS takes the code, the result is `[]`, and nothing else changes: no
context is written and nothing is saved (R260). There is no handler; RETURN FROM A FAULT is the next command being taken
as after any response (R269), so it needs no operation of its own. -/
def State.raise (s : State) (st : Status) : State := s.respond st []

/-- The end of a command on one context: its body either gives the context's new value and the result, which are written,
or raises a fault, which writes neither (R57, R263). -/
def State.settle {κ : Type} (s : State) (put : κ → State) (r : Except Status (κ × Bytes)) :
    Host.Outcome State Fault Refusal :=
  match r with
  | .ok (C, res) => .next ((put C).complete res)
  | .error st => .next (s.raise st)

/-- The end of a pure command (R75): no context is written. -/
def State.answer (s : State) (r : Except Status Bytes) : Host.Outcome State Fault Refusal :=
  match r with
  | .ok res => .next (s.complete res)
  | .error st => .next (s.raise st)

end Sys2Proof.Machine
end

