-- ==== Sys2Proof/Machine/Flags.lean ====
section
/-! DEFINITION. The block has no condition codes and no arithmetic flags (10_state.md R23): no computation leaves a carry,
an overflow or a comparison result. What a program sees of a command is its status code, so this file holds the checks
that decide it, in the order of 60_exceptions.md R270. ILLEGAL_COMMAND, the first, is decided before a command is one
(Machine/Step.lean). -/

namespace Sys2Proof.Machine

/-- Second check of R270: the operand has exactly the required length (R76, R268), else OPERAND_LENGTH. -/
def requireLength {α : Type} (n : Nat) (arg : Bytes) (body : Except Status α) : Except Status α :=
  if arg.length = n then body else .error .operandLength

/-- Third check of R270, for ABSORB, FINALIZE and SAVE: the context is not in phase UNINIT (R261), else
NOT_INITIALIZED. -/
def requireInit {α : Type} (ph : Phase) (body : Except Status α) : Except Status α :=
  if ph = .uninit then .error .notInitialized else body

/-- FINALIZE's own check: `outlen` is the digest size (R265), else SIZE_MISMATCH. -/
def requireOutlen {α : Type} (n outlen : Nat) (body : Except Status α) : Except Status α :=
  if outlen = n then body else .error .sizeMismatch

/-- Tiger ABSORB's own check: the new byte count stays within the limit, compared on exact integers (R266), else
INPUT_TOO_LARGE. -/
def requireWithin {α : Type} (limit total n : Nat) (body : Except Status α) : Except Status α :=
  if total + n ≤ limit then body else .error .inputTooLarge

/-- LOAD's own check: the image passes every validity check (R267), else BAD_CONTEXT. -/
def requireImage {α : Type} (valid : Bool) (body : Except Status α) : Except Status α :=
  if valid then body else .error .badContext

end Sys2Proof.Machine
end

