-- ==== Sys2Proof/Machine/Operands.lean ====
section
/-! DEFINITION. The operand forms of the commands (30_encoding.md R76, R77) and the matching result forms (R78): what the
bytes of an operand, a result or a context image stand for. The block has no addressing mode and no immediate (R82): an
operand is the byte sequence of the transaction. -/

namespace Sys2Proof.Machine

/-! ## Tiger: a chaining value and a block -/

/-- The eight message words x0 to x7 of a block (R140). -/
structure Block where
  x0 : W64
  x1 : W64
  x2 : W64
  x3 : W64
  x4 : W64
  x5 : W64
  x6 : W64
  x7 : W64
  deriving DecidableEq, Repr

/-- `words_64` of the 64 bytes at offset `o` (R15), little-endian (20_memory.md R51). -/
def blockAt (s : Bytes) (o : Nat) : Block :=
  { x0 := leLoad 64 s o
    x1 := leLoad 64 s (o + 8)
    x2 := leLoad 64 s (o + 16)
    x3 := leLoad 64 s (o + 24)
    x4 := leLoad 64 s (o + 32)
    x5 := leLoad 64 s (o + 40)
    x6 := leLoad 64 s (o + 48)
    x7 := leLoad 64 s (o + 56) }

/-- `le_store_64(a) ++ le_store_64(b) ++ le_store_64(c)`: a chaining value as 24 bytes (R106, R150). -/
def chainBytes (h : Chain) : Bytes := leStore h.a ++ leStore h.b ++ leStore h.c

/-- The chaining value at offset `o` of an operand (R77). -/
def chainAt (s : Bytes) (o : Nat) : Chain :=
  { a := leLoad 64 s o, b := leLoad 64 s (o + 8), c := leLoad 64 s (o + 16) }

/-! ## RadioGatun: a mill, a belt and input words -/

/-- Mill and belt together: what the round function maps. -/
structure MillBelt (W : Nat) where
  mill : Vector (BitVec W) 19
  belt : Vector (BitVec W) 39
  deriving DecidableEq, Repr

/-- `nb` = W/8: the bytes of a word (R76). -/
def rgWordBytes (W : Nat) : Nat := W / 8

/-- `cap` = `RG_BLOCK_BYTES` = 3 * nb (R8): 12 for RG32, 24 for RG64. -/
def rgCap (W : Nat) : Nat := 3 * rgWordBytes W

/-- `n` consecutive little-endian words from offset `o` (R77). -/
def wordsAt (W n : Nat) (s : Bytes) (o : Nat) : Vector (BitVec W) n :=
  Vector.ofFn fun i => leLoad W s (o + rgWordBytes W * i.val)

/-- Mill words 0 to 18, then belt flat words 0 to 38, from offset `o` (R77, R238). -/
def millBeltAt (W : Nat) (s : Bytes) (o : Nat) : MillBelt W :=
  { mill := wordsAt W 19 s o, belt := wordsAt W 39 s (o + rgWordBytes W * 19) }

/-- A mill and belt as bytes: mill words, then belt words in flat order, each `le_store_W` (R78). -/
def millBeltBytes {W : Nat} (m : MillBelt W) : Bytes := bytesOf m.mill.toList ++ bytesOf m.belt.toList

/-! ## Context images -/

/-- The fill byte of an image (R114, R238). -/
def imageFill (img : Bytes) : Nat := (img.getD 1 0).toNat

/-- The `total_length` of a Tiger image (R114). -/
def tigerImageLength (img : Bytes) : W64 := leLoad 64 img 32

end Sys2Proof.Machine
end

