-- ==== Sys2Proof/Machine/Tiger.lean ====
section
/-! DEFINITION. The Tiger compression function (41_tiger_compress.md R140 to R146) and the bodies of the Tiger engine's
commands (40_tiger_engine.md R100 to R115), each a function of the context it reads. The S-box table and the length limit
are arguments (00_scope.md R9). -/

namespace Sys2Proof.Machine

/-! ## The compression function -/

/-- `Round(p, q, r, xi, mul)` (R141): the new p, q, r. Both groups of lookups use the updated r: the even bytes select the
subtrahend of p, the odd bytes, in reverse table order, the addend of q. -/
def tigerRound (S : Sbox) (p q r xi mul : W64) : W64 × W64 × W64 :=
  let r := r ^^^ xi
  let p := p - (S 0 (byteAt 0 r) ^^^ S 1 (byteAt 2 r) ^^^ S 2 (byteAt 4 r) ^^^ S 3 (byteAt 6 r))
  let q := q + (S 3 (byteAt 1 r) ^^^ S 2 (byteAt 3 r) ^^^ S 1 (byteAt 5 r) ^^^ S 0 (byteAt 7 r))
  let q := q * mul
  (p, q, r)

/-- `Pass(a, b, c, mul, x)` (R142): eight rounds, the roles rotating over the three variables; the new a, b, c. -/
def tigerPass (S : Sbox) (a b c mul : W64) (x : Block) : W64 × W64 × W64 :=
  let (a, b, c) := tigerRound S a b c x.x0 mul
  let (b, c, a) := tigerRound S b c a x.x1 mul
  let (c, a, b) := tigerRound S c a b x.x2 mul
  let (a, b, c) := tigerRound S a b c x.x3 mul
  let (b, c, a) := tigerRound S b c a x.x4 mul
  let (c, a, b) := tigerRound S c a b x.x5 mul
  let (a, b, c) := tigerRound S a b c x.x6 mul
  let (b, c, a) := tigerRound S b c a x.x7 mul
  (a, b, c)

/-- `KeySchedule(x)` (R143): each line reads the values the lines before it wrote. -/
def keySchedule (x : Block) : Block :=
  let x0 := x.x0 - (x.x7 ^^^ 0xA5A5A5A5A5A5A5A5)
  let x1 := x.x1 ^^^ x0
  let x2 := x.x2 + x1
  let x3 := x.x3 - (x2 ^^^ ((~~~x1) <<< 19))
  let x4 := x.x4 ^^^ x3
  let x5 := x.x5 + x4
  let x6 := x.x6 - (x5 ^^^ ((~~~x4) >>> 23))
  let x7 := x.x7 ^^^ x6
  let x0 := x0 + x7
  let x1 := x1 - (x0 ^^^ ((~~~x7) <<< 19))
  let x2 := x2 ^^^ x1
  let x3 := x3 + x2
  let x4 := x4 - (x3 ^^^ ((~~~x2) >>> 23))
  let x5 := x5 ^^^ x4
  let x6 := x6 + x5
  let x7 := x7 - (x6 ^^^ 0x0123456789ABCDEF)
  { x0 := x0, x1 := x1, x2 := x2, x3 := x3, x4 := x4, x5 := x5, x6 := x6, x7 := x7 }

/-- The feedforward after the third pass (R144), `h` the saved input state. -/
def feedforward (h : Chain) (a b c : W64) : Chain :=
  { a := a ^^^ h.a, b := b - h.b, c := c + h.c }

/-- `TigerCompress` (R140) computed with the table `S` (R9, R171): three passes with multipliers 5, 7, 9 and a key
schedule between consecutive passes (R145). -/
def tigerCompressWith (S : Sbox) (h : Chain) (x : Block) : Chain :=
  let (a, b, c) := tigerPass S h.a h.b h.c 5 x
  let x := keySchedule x
  let (c, a, b) := tigerPass S c a b 7 x
  let x := keySchedule x
  let (b, c, a) := tigerPass S b c a 9 x
  feedforward h a b c

/-- `TigerCompress` with the default table (R140, R170). -/
def tigerCompress (h : Chain) (x : Block) : Chain := tigerCompressWith tigerSbox h x

/-! ## The streaming engine -/

/-- `TIGER_IV` (R101), the same for both engines (R103). -/
def tigerIV : Chain := { a := 0x0123456789ABCDEF, b := 0xFEDCBA9876543210, c := 0xF096A5B4C3B2E187 }

/-- The INIT context (R102). -/
def tigerInitCtx : TigerCtx := { phase := .ready, pb := [], cv := tigerIV, totalLength := 0 }

/-- INIT (R102, R103): valid in every phase. -/
def tigerInit (arg : Bytes) : Except Status (TigerCtx × Bytes) :=
  requireLength 0 arg (.ok (tigerInitCtx, []))

/-- One turn of ABSORB's loop (R104): a byte joins the pending block, and a block that is full is compressed and
emptied. -/
def tigerTakeByte (S : Sbox) (m : Chain × Bytes) (x : Byte) : Chain × Bytes :=
  if m.2.length + 1 = 64 then (tigerCompressWith S m.1 (blockAt (m.2 ++ [x]) 0), []) else (m.1, m.2 ++ [x])

/-- ABSORB's loop over the operand bytes (R104). -/
def tigerTakeBytes (S : Sbox) (m : Chain × Bytes) (arg : Bytes) : Chain × Bytes := arg.foldl (tigerTakeByte S) m

/-- ABSORB (R104, R105), for an operand within the limit: the context after it. -/
def tigerAbsorbed (S : Sbox) (C : TigerCtx) (arg : Bytes) : TigerCtx :=
  { phase := if 0 < arg.length then .accum else C.phase
    pb := (tigerTakeBytes S (C.cv, C.pb) arg).2
    cv := (tigerTakeBytes S (C.cv, C.pb) arg).1
    totalLength := C.totalLength + BitVec.ofNat 64 arg.length }

/-- ABSORB (R104, R105). Both checks precede every write, so a fault takes no byte (R263). -/
def tigerAbsorb (S : Sbox) (limit : Nat) (C : TigerCtx) (arg : Bytes) : Except Status (TigerCtx × Bytes) :=
  requireInit C.phase
    (requireWithin limit C.totalLength.toNat arg.length
      (.ok (tigerAbsorbed S C arg, [])))

/-- The length field (R110): `L = (8 * total_length) mod 2^64`. -/
def tigerLengthField (C : TigerCtx) : W64 := 8 * C.totalLength

/-- The chaining value after FINALIZE's one or two compressions (R106, R107): the marker byte, zero bytes up to byte 56 of
the final block, then the length field at bytes 56 to 63. -/
def tigerFinalChain (S : Sbox) (e : Engine) (C : TigerCtx) : Chain :=
  let s := C.pb ++ [padByte e]
  let L := leStore (tigerLengthField C)
  if 56 < s.length then
    let h := tigerCompressWith S C.cv (blockAt (s ++ zeros (64 - s.length)) 0)
    tigerCompressWith S h (blockAt (zeros 56 ++ L) 0)
  else
    tigerCompressWith S C.cv (blockAt (s ++ zeros (56 - s.length) ++ L) 0)

/-- FINALIZE, `TigerFinalize(e)` (R106, R108, R109): the 24-byte digest, and the INIT context. -/
def tigerFinalize (S : Sbox) (e : Engine) (C : TigerCtx) (arg : Bytes) (outlen : Nat) :
    Except Status (TigerCtx × Bytes) :=
  requireLength 0 arg
    (requireInit C.phase
      (requireOutlen 24 outlen
        (.ok (tigerInitCtx, chainBytes (tigerFinalChain S e C)))))

/-- The Tiger context image (R112), 104 bytes: header, chaining value, `total_length`, pending bytes padded with zero. -/
def tigerImage (e : Engine) (C : TigerCtx) : Bytes :=
  [phaseCode C.phase, BitVec.ofNat 8 C.pb.length, engineByte e] ++ zeros 5
    ++ chainBytes C.cv ++ leStore C.totalLength ++ C.pb ++ zeros (64 - C.pb.length)

/-- SAVE (R112, R113): it changes no state. -/
def tigerSave (e : Engine) (C : TigerCtx) (arg : Bytes) : Except Status (TigerCtx × Bytes) :=
  requireLength 0 arg (requireInit C.phase (.ok (C, tigerImage e C)))

/-- LOAD's checks of an image (R114), in the spec's order; any that fails raises BAD_CONTEXT. -/
def tigerImageValid (limit : Nat) (e : Engine) (img : Bytes) : Bool :=
  let ph := img.getD 0 0
  let f := imageFill img
  let tl := (tigerImageLength img).toNat
  (ph == 1 || ph == 2)
    && !decide (64 ≤ f)
    && img.getD 2 0 == engineByte e
    && slice img 3 8 == zeros 5
    && tl % 64 == f
    && !decide (limit < tl)
    && !(ph == 2 && tl == 0)
    && !(ph == 1 && (tl != 0 || chainAt img 8 != tigerIV))

/-- The context an image stands for (R114): the bytes past `fill` are ignored. -/
def tigerImageCtx (img : Bytes) : TigerCtx :=
  { phase := if img.getD 0 0 = 1 then .ready else .accum
    pb := slice img 40 (40 + imageFill img)
    cv := chainAt img 8
    totalLength := tigerImageLength img }

/-- LOAD (R114, R115): valid in every phase. -/
def tigerLoad (limit : Nat) (e : Engine) (arg : Bytes) : Except Status (TigerCtx × Bytes) :=
  requireLength 104 arg
    (requireImage (tigerImageValid limit e arg) (.ok (tigerImageCtx arg, [])))

/-- COMPRESS (R150, R151): state at bytes 0 to 23, block words at bytes 24 to 87. -/
def tigerCompressCmd (S : Sbox) (arg : Bytes) : Except Status Bytes :=
  requireLength 88 arg (.ok (chainBytes (tigerCompressWith S (chainAt arg 0) (blockAt arg 24))))

end Sys2Proof.Machine
end

