-- ==== Sys2Proof/Machine/RadioGatun.lean ====
section
/-! DEFINITION. The RadioGatun round (45_radiogatun_round.md R180 to R187) and the bodies of the RadioGatun engines'
commands (46_radiogatun_engine.md R220 to R239), for words of `W` bits, W = 32 or 64 (R187). -/

namespace Sys2Proof.Machine

/-! ## The round function -/

/-- `b[i][j]`: stage i, the stage index mod 13, row j (R17, R27, D16). -/
def beltWord {W : Nat} (b : Vector (BitVec W) 39) (i j : Nat) : BitVec W := wordAt b (3 * (i % 13) + j)

/-- Gamma (R181). -/
def gamma {W : Nat} (a : Vector (BitVec W) 19) : Vector (BitVec W) 19 :=
  Vector.ofFn fun i => wordAt a i.val ^^^ (wordAt a (i.val + 1) ||| ~~~(wordAt a (i.val + 2)))

/-- Pi with rotations (R182). -/
def piRotate {W : Nat} (g : Vector (BitVec W) 19) : Vector (BitVec W) 19 :=
  Vector.ofFn fun i => rotr (wordAt g (7 * i.val)) ((i.val * (i.val + 1) / 2) % W)

/-- Theta (R183). -/
def theta {W : Nat} (r : Vector (BitVec W) 19) : Vector (BitVec W) 19 :=
  Vector.ofFn fun i => wordAt r i.val ^^^ wordAt r (i.val + 1) ^^^ wordAt r (i.val + 4)

/-- Iota (R183): the constant 1 into word 0. -/
def iota {W : Nat} (t : Vector (BitVec W) 19) : Vector (BitVec W) 19 :=
  t.set 0 (t[0] ^^^ 1)

/-- The mill function (R180): every step reads only the output of the step before. -/
def millFn {W : Nat} (a : Vector (BitVec W) 19) : Vector (BitVec W) 19 :=
  iota (theta (piRotate (gamma a)))

/-- The belt after one round (R184): every stage moves one place on and the last wraps to stage 0; then, for i = 0 to 11,
word i + 1 of the OLD mill goes into `b'[i+1][i mod 3]`. Flat word k is stage k / 3, row k mod 3. -/
def beltNext {W : Nat} (m : MillBelt W) : Vector (BitVec W) 39 :=
  Vector.ofFn fun k =>
    let moved := beltWord m.belt (k.val / 3 + 12) (k.val % 3)
    if 1 ≤ k.val / 3 ∧ k.val % 3 = (k.val / 3 - 1) % 3 then moved ^^^ wordAt m.mill (k.val / 3) else moved

/-- The mill after one round (R184): the mill function of the OLD mill, then the saved last stage `q` into words 13 to
15. -/
def millNext {W : Nat} (m : MillBelt W) : Vector (BitVec W) 19 :=
  Vector.ofFn fun i =>
    let updated := wordAt (millFn m.mill) i.val
    if 13 ≤ i.val ∧ i.val ≤ 15 then updated ^^^ beltWord m.belt 12 (i.val - 13) else updated

/-- The round function `R(a, b)` (R184), the blank round. -/
def rgRound {W : Nat} (m : MillBelt W) : MillBelt W := { mill := millNext m, belt := beltNext m }

/-- `Inject(a, b, p)` (R185): the three input words into belt stage 0 and mill words 16 to 18; no other word changes. -/
def inject {W : Nat} (m : MillBelt W) (p : Vector (BitVec W) 3) : MillBelt W :=
  { mill := Vector.ofFn fun i => if 16 ≤ i.val then wordAt m.mill i.val ^^^ wordAt p (i.val - 16) else wordAt m.mill i.val
    belt := Vector.ofFn fun k => if k.val < 3 then wordAt m.belt k.val ^^^ wordAt p k.val else wordAt m.belt k.val }

/-- The absorption round `RoundIn` (R185): the injection, then one round. -/
def roundIn {W : Nat} (m : MillBelt W) (p : Vector (BitVec W) 3) : MillBelt W := rgRound (inject m p)

/-! ## The streaming engine -/

/-- Mill and belt of a context. -/
def RGCtx.millBelt {W : Nat} (C : RGCtx W) : MillBelt W := { mill := C.mill, belt := C.belt }

/-- All-zero mill and belt (R220, R228). -/
def millBeltZero (W : Nat) : MillBelt W := { mill := Vector.replicate 19 0, belt := Vector.replicate 39 0 }

/-- The INIT context (R220, R221). -/
def rgInitCtx (W : Nat) : RGCtx W :=
  { phase := .ready, pb := [], mill := Vector.replicate 19 0, belt := Vector.replicate 39 0 }

/-- INIT (R220, R221): valid in every phase. -/
def rgInit (W : Nat) (arg : Bytes) : Except Status (RGCtx W × Bytes) :=
  requireLength 0 arg (.ok (rgInitCtx W, []))

/-- One turn of ABSORB's loop (R222): a byte joins the pending block, and a block that is full is injected for one round
and emptied. -/
def rgTakeByte {W : Nat} (m : MillBelt W × Bytes) (x : Byte) : MillBelt W × Bytes :=
  if m.2.length + 1 = rgCap W then (roundIn m.1 (wordsAt W 3 (m.2 ++ [x]) 0), []) else (m.1, m.2 ++ [x])

/-- ABSORB's loop over the operand bytes (R222). -/
def rgTakeBytes {W : Nat} (m : MillBelt W × Bytes) (arg : Bytes) : MillBelt W × Bytes := arg.foldl rgTakeByte m

/-- The context after ABSORB (R222, R223). -/
def rgAbsorbed {W : Nat} (C : RGCtx W) (arg : Bytes) : RGCtx W :=
  { phase := if 0 < arg.length then .accum else C.phase
    pb := (rgTakeBytes (C.millBelt, C.pb) arg).2
    mill := (rgTakeBytes (C.millBelt, C.pb) arg).1.mill
    belt := (rgTakeBytes (C.millBelt, C.pb) arg).1.belt }

/-- ABSORB (R222, R223): there is no length counter, so any operand is accepted. -/
def rgAbsorb {W : Nat} (C : RGCtx W) (arg : Bytes) : Except Status (RGCtx W × Bytes) :=
  requireInit C.phase (.ok (rgAbsorbed C arg, []))

/-- `RG_BLANK_ROUNDS` (R8). -/
def rgBlankRounds : Nat := 16

/-- `RG_OUT_ROUNDS` = 32 / (2 * W/8) (R8): 4 for RG32, 2 for RG64. -/
def rgOutRounds (W : Nat) : Nat := 32 / (2 * rgWordBytes W)

/-- `n` output rounds (R224, R225): each a round, then mill words 1 and 2. -/
def rgSqueeze {W : Nat} : Nat → MillBelt W → Bytes
  | 0, _ => []
  | n + 1, m => leStore (wordAt (rgRound m).mill 1) ++ leStore (wordAt (rgRound m).mill 2) ++ rgSqueeze n (rgRound m)

/-- The blank rounds and the output rounds that follow the last absorption round (R224, R225). -/
def rgOutput {W : Nat} (m : MillBelt W) : Bytes := rgSqueeze (rgOutRounds W) (Nat.iterate rgRound rgBlankRounds m)

/-- The pending bytes, the pad byte, and zero bytes up to the block's capacity (R224). -/
def rgLastBlock {W : Nat} (e : Engine) (C : RGCtx W) : Bytes :=
  C.pb ++ [padByte e] ++ zeros (rgCap W - C.pb.length - 1)

/-- FINALIZE, `RGFinalize(e)` (R224, R226, R227): the 32-byte digest, and the INIT context. -/
def rgFinalize {W : Nat} (e : Engine) (C : RGCtx W) (arg : Bytes) (outlen : Nat) : Except Status (RGCtx W × Bytes) :=
  requireLength 0 arg
    (requireInit C.phase
      (requireOutlen 32 outlen
        (.ok (rgInitCtx W, rgOutput (roundIn C.millBelt (wordsAt W 3 (rgLastBlock e C) 0))))))

/-- The RadioGatun context image (R236), 8 + 58 * nb + cap bytes. -/
def rgImage {W : Nat} (e : Engine) (C : RGCtx W) : Bytes :=
  [phaseCode C.phase, BitVec.ofNat 8 C.pb.length, engineByte e] ++ zeros 5
    ++ millBeltBytes C.millBelt ++ C.pb ++ zeros (rgCap W - C.pb.length)

/-- SAVE (R236, R237): it changes no state. -/
def rgSave {W : Nat} (e : Engine) (C : RGCtx W) (arg : Bytes) : Except Status (RGCtx W × Bytes) :=
  requireLength 0 arg (requireInit C.phase (.ok (C, rgImage e C)))

/-- `CTX_BYTES` of a RadioGatun engine (R8, R236): 252 for RG32, 496 for RG64. -/
def rgImageBytes (W : Nat) : Nat := 8 + 58 * rgWordBytes W + rgCap W

/-- LOAD's checks of an image (R238), in the spec's order; any that fails raises BAD_CONTEXT. -/
def rgImageValid (W : Nat) (e : Engine) (img : Bytes) : Bool :=
  let ph := img.getD 0 0
  let f := imageFill img
  (ph == 1 || ph == 2)
    && !decide (rgCap W ≤ f)
    && img.getD 2 0 == engineByte e
    && slice img 3 8 == zeros 5
    && !(ph == 1 && (f != 0 || millBeltAt W img 8 != millBeltZero W))

/-- The context an image stands for (R238): the bytes past `fill` are ignored. -/
def rgImageCtx (W : Nat) (img : Bytes) : RGCtx W :=
  { phase := if img.getD 0 0 = 1 then .ready else .accum
    pb := slice img (8 + 58 * rgWordBytes W) (8 + 58 * rgWordBytes W + imageFill img)
    mill := (millBeltAt W img 8).mill
    belt := (millBeltAt W img 8).belt }

/-- LOAD (R238, R239): valid in every phase. -/
def rgLoad (W : Nat) (e : Engine) (arg : Bytes) : Except Status (RGCtx W × Bytes) :=
  requireLength (rgImageBytes W) arg
    (requireImage (rgImageValid W e arg) (.ok (rgImageCtx W arg, [])))

/-- ROUND (R190, R191): mill, belt and three input words from the operand; the next mill and belt. -/
def rgRoundCmd (W : Nat) (arg : Bytes) : Except Status Bytes :=
  requireLength (61 * rgWordBytes W) arg
    (.ok (millBeltBytes (roundIn (millBeltAt W arg 0) (wordsAt W 3 arg (rgWordBytes W * 58)))))

/-- BLANK (R192, R193): mill and belt from the operand; the next mill and belt. -/
def rgBlankCmd (W : Nat) (arg : Bytes) : Except Status Bytes :=
  requireLength (58 * rgWordBytes W) arg (.ok (millBeltBytes (rgRound (millBeltAt W arg 0))))

end Sys2Proof.Machine
end

