-- ==== Sys2Proof/Machine/RadioGatunCommands.lean ====
section
/-! DEFINITION. The meanings of the fourteen commands of the engines RG32 and RG64 (45_radiogatun_round.md,
46_radiogatun_engine.md), one definition each over the engines' shared bodies. -/

namespace Sys2Proof.Machine

/-- RG32.INIT, cmd 0x02 (R220). -/
def execRg32Init (arg : Bytes) (_outlen : Nat) (s : State) : Host.Outcome State Fault Refusal :=
  s.settle s.setRg32 (rgInit 32 arg)

/-- RG64.INIT, cmd 0x03 (R221). -/
def execRg64Init (arg : Bytes) (_outlen : Nat) (s : State) : Host.Outcome State Fault Refusal :=
  s.settle s.setRg64 (rgInit 64 arg)

/-- RG32.ABSORB, cmd 0x06 (R222). -/
def execRg32Absorb (arg : Bytes) (_outlen : Nat) (s : State) : Host.Outcome State Fault Refusal :=
  s.settle s.setRg32 (rgAbsorb s.rg32 arg)

/-- RG64.ABSORB, cmd 0x07 (R223). -/
def execRg64Absorb (arg : Bytes) (_outlen : Nat) (s : State) : Host.Outcome State Fault Refusal :=
  s.settle s.setRg64 (rgAbsorb s.rg64 arg)

/-- RG32.FINALIZE, cmd 0x0A (R226). -/
def execRg32Finalize (arg : Bytes) (outlen : Nat) (s : State) : Host.Outcome State Fault Refusal :=
  s.settle s.setRg32 (rgFinalize .rg32 s.rg32 arg outlen)

/-- RG64.FINALIZE, cmd 0x0B (R227). -/
def execRg64Finalize (arg : Bytes) (outlen : Nat) (s : State) : Host.Outcome State Fault Refusal :=
  s.settle s.setRg64 (rgFinalize .rg64 s.rg64 arg outlen)

/-- RG32.ROUND, cmd 0x0E (R190). -/
def execRg32Round (arg : Bytes) (_outlen : Nat) (s : State) : Host.Outcome State Fault Refusal :=
  s.answer (rgRoundCmd 32 arg)

/-- RG64.ROUND, cmd 0x0F (R191). -/
def execRg64Round (arg : Bytes) (_outlen : Nat) (s : State) : Host.Outcome State Fault Refusal :=
  s.answer (rgRoundCmd 64 arg)

/-- RG32.BLANK, cmd 0x12 (R192). -/
def execRg32Blank (arg : Bytes) (_outlen : Nat) (s : State) : Host.Outcome State Fault Refusal :=
  s.answer (rgBlankCmd 32 arg)

/-- RG64.BLANK, cmd 0x13 (R193). -/
def execRg64Blank (arg : Bytes) (_outlen : Nat) (s : State) : Host.Outcome State Fault Refusal :=
  s.answer (rgBlankCmd 64 arg)

/-- RG32.SAVE, cmd 0x16 (R236). -/
def execRg32Save (arg : Bytes) (_outlen : Nat) (s : State) : Host.Outcome State Fault Refusal :=
  s.settle s.setRg32 (rgSave .rg32 s.rg32 arg)

/-- RG64.SAVE, cmd 0x17 (R237). -/
def execRg64Save (arg : Bytes) (_outlen : Nat) (s : State) : Host.Outcome State Fault Refusal :=
  s.settle s.setRg64 (rgSave .rg64 s.rg64 arg)

/-- RG32.LOAD, cmd 0x1A (R238). -/
def execRg32Load (arg : Bytes) (_outlen : Nat) (s : State) : Host.Outcome State Fault Refusal :=
  s.settle s.setRg32 (rgLoad 32 .rg32 arg)

/-- RG64.LOAD, cmd 0x1B (R239). -/
def execRg64Load (arg : Bytes) (_outlen : Nat) (s : State) : Host.Outcome State Fault Refusal :=
  s.settle s.setRg64 (rgLoad 64 .rg64 arg)

end Sys2Proof.Machine
end

