-- ==== Sys2Proof/Config.lean ====
section
/-! DEFINITION. What an implementation of the block fixes. The spec leaves one number open (00_scope.md R9,
92_eei_decisions.md D7) and names the block (R4). The other parameter a model may abstract, `TIGER_SBOX`, is a table:
Machine/TigerSbox.lean. There is no free value: no command has an undefined result. -/

namespace Sys2Proof.Config

/-- `TIGER_LENGTH_LIMIT`, the greatest accepted Tiger `total_length`, at the spec's default 2^64 - 1 bytes (R8, R9, D7).
DESIGN CHOICE (log 4): the spec lets a model take another limit; the engine's operations take it as an argument and only
the four machine arms that read it pass this one. Unsafe for a block built with another limit. -/
def tigerLengthLimit : Nat := 2 ^ 64 - 1

/-- The spec's identity string for the block (R4). No register holds it (D1). -/
def identity : String := "cwdv-hashcore-v7"

end Sys2Proof.Config
end

