-- ==== Sys2Proof/Machine/TigerCommands.lean ====
section
/-! DEFINITION. The meanings of the twelve commands of the engines TIGER and TIGER2 (40_tiger_engine.md, 41_tiger_compress.md), one
definition each over the engine's shared bodies. -/

namespace Sys2Proof.Machine

/-- TIGER.INIT, cmd 0x00 (R102). -/
def execTigerInit (arg : Bytes) (_outlen : Nat) (s : State) : Host.Outcome State Fault Refusal :=
  s.settle s.setTiger (tigerInit arg)

/-- TIGER2.INIT, cmd 0x01 (R103). -/
def execTiger2Init (arg : Bytes) (_outlen : Nat) (s : State) : Host.Outcome State Fault Refusal :=
  s.settle s.setTiger2 (tigerInit arg)

/-- TIGER.ABSORB, cmd 0x04 (R104). -/
def execTigerAbsorb (arg : Bytes) (_outlen : Nat) (s : State) : Host.Outcome State Fault Refusal :=
  s.settle s.setTiger (tigerAbsorb tigerSbox Config.tigerLengthLimit s.tiger arg)

/-- TIGER2.ABSORB, cmd 0x05 (R105). -/
def execTiger2Absorb (arg : Bytes) (_outlen : Nat) (s : State) : Host.Outcome State Fault Refusal :=
  s.settle s.setTiger2 (tigerAbsorb tigerSbox Config.tigerLengthLimit s.tiger2 arg)

/-- TIGER.FINALIZE, cmd 0x08 (R108). -/
def execTigerFinalize (arg : Bytes) (outlen : Nat) (s : State) : Host.Outcome State Fault Refusal :=
  s.settle s.setTiger (tigerFinalize tigerSbox .tiger s.tiger arg outlen)

/-- TIGER2.FINALIZE, cmd 0x09 (R109). -/
def execTiger2Finalize (arg : Bytes) (outlen : Nat) (s : State) : Host.Outcome State Fault Refusal :=
  s.settle s.setTiger2 (tigerFinalize tigerSbox .tiger2 s.tiger2 arg outlen)

/-- TIGER.COMPRESS, cmd 0x0C (R150). -/
def execTigerCompress (arg : Bytes) (_outlen : Nat) (s : State) : Host.Outcome State Fault Refusal :=
  s.answer (tigerCompressCmd tigerSbox arg)

/-- TIGER2.COMPRESS, cmd 0x0D (R151). -/
def execTiger2Compress (arg : Bytes) (_outlen : Nat) (s : State) : Host.Outcome State Fault Refusal :=
  s.answer (tigerCompressCmd tigerSbox arg)

/-- TIGER.SAVE, cmd 0x14 (R112). -/
def execTigerSave (arg : Bytes) (_outlen : Nat) (s : State) : Host.Outcome State Fault Refusal :=
  s.settle s.setTiger (tigerSave .tiger s.tiger arg)

/-- TIGER2.SAVE, cmd 0x15 (R113). -/
def execTiger2Save (arg : Bytes) (_outlen : Nat) (s : State) : Host.Outcome State Fault Refusal :=
  s.settle s.setTiger2 (tigerSave .tiger2 s.tiger2 arg)

/-- TIGER.LOAD, cmd 0x18 (R114). -/
def execTigerLoad (arg : Bytes) (_outlen : Nat) (s : State) : Host.Outcome State Fault Refusal :=
  s.settle s.setTiger (tigerLoad Config.tigerLengthLimit .tiger arg)

/-- TIGER2.LOAD, cmd 0x19 (R115). -/
def execTiger2Load (arg : Bytes) (_outlen : Nat) (s : State) : Host.Outcome State Fault Refusal :=
  s.settle s.setTiger2 (tigerLoad Config.tigerLengthLimit .tiger2 arg)

end Sys2Proof.Machine
end

