-- ==== Sys2Proof/Machine/Dispatch.lean ====
section
/-! DEFINITION. One arm per constructor of Instr: each command's meaning. -/

namespace Sys2Proof.Machine

def exec (i : Instr) (s : State) : Host.Outcome State Fault Refusal :=
  match i with
  | .tigerInit arg outlen => Sys2Proof.Machine.execTigerInit arg outlen s
  | .tiger2Init arg outlen => Sys2Proof.Machine.execTiger2Init arg outlen s
  | .rg32Init arg outlen => Sys2Proof.Machine.execRg32Init arg outlen s
  | .rg64Init arg outlen => Sys2Proof.Machine.execRg64Init arg outlen s
  | .tigerAbsorb arg outlen => Sys2Proof.Machine.execTigerAbsorb arg outlen s
  | .tiger2Absorb arg outlen => Sys2Proof.Machine.execTiger2Absorb arg outlen s
  | .rg32Absorb arg outlen => Sys2Proof.Machine.execRg32Absorb arg outlen s
  | .rg64Absorb arg outlen => Sys2Proof.Machine.execRg64Absorb arg outlen s
  | .tigerFinalize arg outlen => Sys2Proof.Machine.execTigerFinalize arg outlen s
  | .tiger2Finalize arg outlen => Sys2Proof.Machine.execTiger2Finalize arg outlen s
  | .rg32Finalize arg outlen => Sys2Proof.Machine.execRg32Finalize arg outlen s
  | .rg64Finalize arg outlen => Sys2Proof.Machine.execRg64Finalize arg outlen s
  | .tigerCompress arg outlen => Sys2Proof.Machine.execTigerCompress arg outlen s
  | .tiger2Compress arg outlen => Sys2Proof.Machine.execTiger2Compress arg outlen s
  | .rg32Round arg outlen => Sys2Proof.Machine.execRg32Round arg outlen s
  | .rg64Round arg outlen => Sys2Proof.Machine.execRg64Round arg outlen s
  | .rg32Blank arg outlen => Sys2Proof.Machine.execRg32Blank arg outlen s
  | .rg64Blank arg outlen => Sys2Proof.Machine.execRg64Blank arg outlen s
  | .tigerSave arg outlen => Sys2Proof.Machine.execTigerSave arg outlen s
  | .tiger2Save arg outlen => Sys2Proof.Machine.execTiger2Save arg outlen s
  | .rg32Save arg outlen => Sys2Proof.Machine.execRg32Save arg outlen s
  | .rg64Save arg outlen => Sys2Proof.Machine.execRg64Save arg outlen s
  | .tigerLoad arg outlen => Sys2Proof.Machine.execTigerLoad arg outlen s
  | .tiger2Load arg outlen => Sys2Proof.Machine.execTiger2Load arg outlen s
  | .rg32Load arg outlen => Sys2Proof.Machine.execRg32Load arg outlen s
  | .rg64Load arg outlen => Sys2Proof.Machine.execRg64Load arg outlen s

end Sys2Proof.Machine
end

