-- ==== Sys2Proof/Machine/Step.lean ====
section
/-! DEFINITION. One step: the host's next command is taken, decoded and run (20_memory.md R55, R57). The block fetches
nothing (R59): the command stands at the head of the host's queue. -/

namespace Sys2Proof.Machine

/-- One command, or waiting for one. With nothing pending the block waits (70_reset_and_hazards.md R291, log 7). A command
is taken, and the host's index advances, whatever its status (10_state.md R22). An illegal code completes with
ILLEGAL_COMMAND, its operand and output length not examined (60_exceptions.md R264). -/
def step (s : State) : Host.Outcome State Fault Refusal :=
  match s.pending with
  | [] => .next s
  | c :: rest =>
    match decode c with
    | .error _ => .next ((s.take rest).raise .illegalCommand)
    | .ok i => exec i (s.take rest)

/-- The state in which the host has just issued, ahead of all else, the command whose bits are `w` (logs 2 and 11). -/
def State.withFetchWord (s : State) (nbits w : Nat) : State :=
  { s with pending := tableCommand nbits w :: s.pending }

end Sys2Proof.Machine
end

