-- ==== Sys2Proof/Machine/Assembler.lean ====
section
/-! DEFINITION. The assembler of 30_encoding.md R85 and its pseudo-commands R86, from an abstract line to the commands
it emits: "the command code of rule R74 and the operand bytes of rule R77". Reading the line's characters and the names
of saved images is the host's software (00_scope.md R6, R7). No command calls this file. -/

namespace Sys2Proof.Machine

/-- The operand forms of ABSORB (R85). -/
inductive AsmBytes where
  /-- `"text"`: the ASCII bytes of text (a character outside ASCII: log 13). -/
  | text (t : String)
  /-- `x"hex"`: bytes given as hex pairs. -/
  | hex (b : Bytes)
  /-- `zeros(n)`: n zero bytes. -/
  | zeros (n : Nat)
  deriving DecidableEq, Repr

/-- A line of the assembler (R85). `second` picks TIGER2 in `compress`. -/
inductive AsmLine where
  | init (e : Engine)
  | absorb (e : Engine) (d : AsmBytes)
  | finalize (e : Engine) (outlen : Option Nat)
  | compress (second : Bool) (h : Chain) (x : Block)
  | round32 (m : MillBelt 32) (p : Vector (BitVec 32) 3)
  | round64 (m : MillBelt 64) (p : Vector (BitVec 64) 3)
  | blank32 (m : MillBelt 32)
  | blank64 (m : MillBelt 64)
  | save (e : Engine)
  | load (e : Engine) (img : Bytes)
  deriving DecidableEq, Repr

/-- The bytes an ABSORB operand stands for (R85). The spec gives `"text"` its ASCII bytes and says nothing of a character
outside ASCII: the model gives such a character its code point mod 256 (DESIGN CHOICE, log 13; unsafe). -/
def asmBytes : AsmBytes → Bytes
  | .text t => t.toList.map fun ch => BitVec.ofNat 8 ch.toNat
  | .hex b => b
  | .zeros n => zeros n

/-- The digest size of an engine (R8). -/
def digestBytes : Engine → Nat
  | .tiger => 24
  | .tiger2 => 24
  | .rg32 => 32
  | .rg64 => 32

/-- A block as 64 bytes, x0 first (R77). -/
def blockBytes (x : Block) : Bytes :=
  leStore x.x0 ++ leStore x.x1 ++ leStore x.x2 ++ leStore x.x3 ++ leStore x.x4 ++ leStore x.x5 ++ leStore x.x6
    ++ leStore x.x7

/-- The operand of COMPRESS (R77): state, then block. -/
def compressOperand (h : Chain) (x : Block) : Bytes := chainBytes h ++ blockBytes x

/-- The operand of ROUND (R77): mill, belt, input words. -/
def roundOperand {W : Nat} (m : MillBelt W) (p : Vector (BitVec W) 3) : Bytes := millBeltBytes m ++ bytesOf p.toList

/-- The command a line assembles to (R85, R74, R77). `FINALIZE` alone means the engine's digest size; the other commands
ignore `outlen` (R79), and which number stands there R85 leaves open: the model assembles 0 (DESIGN CHOICE, log 14). -/
def assemble : AsmLine → Command
  | .init e => { cmd := encodeCode .init e, arg := [], outlen := 0 }
  | .absorb e d => { cmd := encodeCode .absorb e, arg := asmBytes d, outlen := 0 }
  | .finalize e n => { cmd := encodeCode .finalize e, arg := [], outlen := n.getD (digestBytes e) }
  | .compress second h x =>
    { cmd := encodeCode .transform (if second then .tiger2 else .tiger), arg := compressOperand h x, outlen := 0 }
  | .round32 m p => { cmd := encodeCode .transform .rg32, arg := roundOperand m p, outlen := 0 }
  | .round64 m p => { cmd := encodeCode .transform .rg64, arg := roundOperand m p, outlen := 0 }
  | .blank32 m => { cmd := encodeCode .blank .rg32, arg := millBeltBytes m, outlen := 0 }
  | .blank64 m => { cmd := encodeCode .blank .rg64, arg := millBeltBytes m, outlen := 0 }
  | .save e => { cmd := encodeCode .save e, arg := [], outlen := 0 }
  | .load e img => { cmd := encodeCode .load e, arg := img, outlen := 0 }

/-- `<E>.HASH s` (R86): its result is the result of the FINALIZE. -/
def asmHash (e : Engine) (d : AsmBytes) : List AsmLine := [.init e, .absorb e d, .finalize e none]

/-- `<E>.CLONE -> img` (R86). -/
def asmClone (e : Engine) : List AsmLine := [.save e]

/-- `<E>.RESET` (R86). -/
def asmReset (e : Engine) : List AsmLine := [.init e]

/-- The engine's name in a line (R85). -/
def engineName : Engine → String
  | .tiger => "TIGER"
  | .tiger2 => "TIGER2"
  | .rg32 => "RG32"
  | .rg64 => "RG64"

/-- The operation's name in a line (R85): OP = 3 is COMPRESS on a Tiger engine and ROUND on a RadioGatun engine. -/
def opName : Op → Engine → String
  | .init, _ => "INIT"
  | .absorb, _ => "ABSORB"
  | .finalize, _ => "FINALIZE"
  | .transform, .tiger => "COMPRESS"
  | .transform, .tiger2 => "COMPRESS"
  | .transform, .rg32 => "ROUND"
  | .transform, .rg64 => "ROUND"
  | .blank, _ => "BLANK"
  | .save, _ => "SAVE"
  | .load, _ => "LOAD"

/-- `<ENGINE>.<OP>` (R85): the mnemonic of a command (R74). -/
def mnemonic (i : Instr) : String := engineName (opEngine i).2 ++ "." ++ opName (opEngine i).1 (opEngine i).2

end Sys2Proof.Machine
end

