-- ==== Sys2Proof/Machine/Reference.lean ====
section
/-! DEFINITION. The second forms the spec gives of what the commands compute: the written-out table of Tiger's 24 rounds
(41_tiger_compress.md R142), the generation procedure of the S-boxes (42_tiger_sboxes.md R171), and the whole-message
forms of the two hashes (40_tiger_engine.md R111, 46_radiogatun_engine.md R228). No command calls them: they are what
statements compare the commands with. -/

namespace Sys2Proof.Machine

/-! ## The table of rounds (R142) -/

/-- Which variables take the roles p, q, r in a round. -/
inductive Roles where
  | abc | bca | cab
  deriving DecidableEq, Repr

/-- A row of the table: the pass, the multiplier, the roles, the index of the message word. -/
structure RoundRow where
  pass  : Nat
  mul   : W64
  roles : Roles
  word  : Nat
  deriving DecidableEq, Repr

/-- Word `i` of a block. -/
def blockWord (x : Block) (i : Nat) : W64 :=
  [x.x0, x.x1, x.x2, x.x3, x.x4, x.x5, x.x6, x.x7].getD i 0

/-- Rows 1 to 8 of the table: pass 1. -/
def roundRows1 : List RoundRow :=
  [⟨1, 5, .abc, 0⟩, ⟨1, 5, .bca, 1⟩, ⟨1, 5, .cab, 2⟩, ⟨1, 5, .abc, 3⟩,
   ⟨1, 5, .bca, 4⟩, ⟨1, 5, .cab, 5⟩, ⟨1, 5, .abc, 6⟩, ⟨1, 5, .bca, 7⟩]

/-- Rows 9 to 16: pass 2. -/
def roundRows2 : List RoundRow :=
  [⟨2, 7, .cab, 0⟩, ⟨2, 7, .abc, 1⟩, ⟨2, 7, .bca, 2⟩, ⟨2, 7, .cab, 3⟩,
   ⟨2, 7, .abc, 4⟩, ⟨2, 7, .bca, 5⟩, ⟨2, 7, .cab, 6⟩, ⟨2, 7, .abc, 7⟩]

/-- Rows 17 to 24: pass 3. -/
def roundRows3 : List RoundRow :=
  [⟨3, 9, .bca, 0⟩, ⟨3, 9, .cab, 1⟩, ⟨3, 9, .abc, 2⟩, ⟨3, 9, .bca, 3⟩,
   ⟨3, 9, .cab, 4⟩, ⟨3, 9, .abc, 5⟩, ⟨3, 9, .bca, 6⟩, ⟨3, 9, .cab, 7⟩]

/-- One row of the table on the variables a, b, c: rounds 1 to 8 use the original words, rounds 9 to 16 those after one
key schedule, rounds 17 to 24 those after two. -/
def tableRound (S : Sbox) (x : Block) (h : Chain) (row : RoundRow) : Chain :=
  let w := blockWord (Nat.iterate keySchedule (row.pass - 1) x) row.word
  match row.roles with
  | .abc => match tigerRound S h.a h.b h.c w row.mul with
    | (a, b, c) => { a := a, b := b, c := c }
  | .bca => match tigerRound S h.b h.c h.a w row.mul with
    | (b, c, a) => { a := a, b := b, c := c }
  | .cab => match tigerRound S h.c h.a h.b w row.mul with
    | (c, a, b) => { a := a, b := b, c := c }

/-- `TigerCompress` by the table: the 24 rows in order, then the feedforward (R142, R144). -/
def tigerCompressTable (S : Sbox) (h : Chain) (x : Block) : Chain :=
  let g := (roundRows1 ++ roundRows2 ++ roundRows3).foldl (tableRound S x) h
  feedforward h g.a g.b g.c

/-! ## Whole messages (R111, R228) -/

/-- "for each 64-byte block B of P, in order: h = TigerCompress(h, words_64(B))" (R111); a rest of fewer than 64 bytes is
left out. -/
def tigerBlocks (S : Sbox) (h : Chain) (s : Bytes) : Chain :=
  (List.range (s.length / 64)).foldl (fun h k => tigerCompressWith S h (blockAt s (64 * k))) h

/-- A Tiger context after ABSORB, block by block (R104): every whole block of the pending bytes and the operand together
is compressed, in order, and the rest stays pending. -/
def tigerAbsorbedByBlocks (S : Sbox) (C : TigerCtx) (arg : Bytes) : TigerCtx :=
  { phase := if arg = [] then C.phase else .accum
    pb := (C.pb ++ arg).drop (64 * ((C.pb ++ arg).length / 64))
    cv := tigerBlocks S C.cv (C.pb ++ arg)
    totalLength := BitVec.ofNat 64 (C.totalLength.toNat + arg.length) }

/-- The pad of a message of `n` bytes (R107, R111): the marker, `(55 - n) mod 64` zero bytes, the 64-bit length field. -/
def tigerPad (e : Engine) (n : Nat) : Bytes :=
  [padByte e] ++ zeros ((55 - (n : Int)) % 64).toNat ++ leStore (BitVec.ofNat 64 (8 * n))

/-- `TigerHash(e, M)` (R111). -/
def tigerHash (S : Sbox) (e : Engine) (M : Bytes) : Bytes :=
  chainBytes (tigerBlocks S tigerIV (M ++ tigerPad e M.length))

/-- "for each cap-byte block B of P, in order: (a, b) = R(Inject(a, b, words_W(B)))" (R228); a rest of fewer than cap
bytes is left out. -/
def rgBlocks {W : Nat} (m : MillBelt W) (s : Bytes) : MillBelt W :=
  (List.range (s.length / rgCap W)).foldl (fun m k => roundIn m (wordsAt W 3 s (rgCap W * k))) m

/-- A RadioGatun context after ABSORB, block by block (R222): every whole block of the pending bytes and the operand
together is injected for one round, in order, and the rest stays pending. -/
def rgAbsorbedByBlocks {W : Nat} (C : RGCtx W) (arg : Bytes) : RGCtx W :=
  { phase := if arg = [] then C.phase else .accum
    pb := (C.pb ++ arg).drop (rgCap W * ((C.pb ++ arg).length / rgCap W))
    mill := (rgBlocks C.millBelt (C.pb ++ arg)).mill
    belt := (rgBlocks C.millBelt (C.pb ++ arg)).belt }

/-- The pad of a message of `n` bytes (R228): 0x01, then `(cap - 1 - n) mod cap` zero bytes. -/
def rgPad (W n : Nat) : Bytes :=
  [0x01] ++ zeros (((rgCap W : Int) - 1 - (n : Int)) % (rgCap W : Int)).toNat

/-- The output of R224 read off the rounds: after the 16 blank rounds, output round k = 1, 2, … gives mill words 1 and 2
as they stand after it. -/
def rgDigestOf {W : Nat} (m : MillBelt W) : Bytes :=
  (List.range (rgOutRounds W)).flatMap fun k =>
    leStore (wordAt (Nat.iterate rgRound (16 + (k + 1)) m).mill 1)
      ++ leStore (wordAt (Nat.iterate rgRound (16 + (k + 1)) m).mill 2)

/-- `RGHash(W, M)` (R228). -/
def rgHash (W : Nat) (M : Bytes) : Bytes :=
  rgDigestOf (rgBlocks (millBeltZero W) (M ++ rgPad W M.length))

/-! ## Generation of the S-boxes (R171) -/

/-- The generator's variables: the table as it stands (1024 entries of 8 bytes), the chaining value `h`, the counter
`abc`. -/
structure SboxGen where
  table : List Bytes
  h     : Chain
  abc   : Nat
  deriving DecidableEq, Repr

/-- The table as it stands, read as S-boxes: `T[k][i]` is the little-endian word of entry `256 * k + i`. -/
def sboxOfTable (t : List Bytes) : Sbox := fun k i => leLoad 64 (t.getD (256 * k.val + i.toNat) []) 0

/-- Swap byte `col` of entries `p` and `q`. -/
def swapByte (t : List Bytes) (p q col : Nat) : List Bytes :=
  let sp := t.getD p []
  let x := sp.getD col 0
  let y := (t.getD q []).getD col 0
  let t := t.set p (sp.set col y)
  t.set q ((t.getD q []).set col x)

/-- The body of the generator's innermost loops for entry `i` of the S-box that starts at `sb`. -/
def genEntry (X : Block) (g : SboxGen) (i sb : Nat) : SboxGen :=
  let g := { g with abc := g.abc + 1 }
  let g := if g.abc = 3 then { g with abc := 0, h := tigerCompressWith (sboxOfTable g.table) g.h X } else g
  let hb := chainBytes g.h
  { g with
    table := (List.range 8).foldl
      (fun t col => swapByte t (sb + i) (sb + (hb.getD (8 * g.abc + col) 0).toNat) col) g.table }

/-- The eight words of the seed string X (R171). -/
def sboxSeed : Block :=
  { x0 := 0x202D207265676954, x1 := 0x4E20747361462041, x2 := 0x2068736148207765, x3 := 0x6E6F6974636E7546
    x4 := 0x736F52207962202C, x5 := 0x737265646E412073, x6 := 0x4520646E61206E6F, x7 := 0x6D6168694220696C }

/-- `GenSboxes()` (R171): the table it leaves, which R171 says is that of R170. -/
def genSboxes : List Bytes :=
  let start : SboxGen :=
    { table := (List.range 1024).map fun n => List.replicate 8 (BitVec.ofNat 8 n), h := tigerIV, abc := 2 }
  let pass (g : SboxGen) : SboxGen :=
    (List.range 256).foldl (fun g i => [0, 256, 512, 768].foldl (fun g sb => genEntry sboxSeed g i sb) g) g
  (Nat.iterate pass 5 start).table

end Sys2Proof.Machine
end

