-- ==== Sys2Proof/Safety.lean ====
section
/-! DEFINITION. The terms claims about the block use: the invariants of the contexts (10_state.md R26, R28, R29), the
status the fault rules give a command (60_exceptions.md R270), which context a command may touch (20_memory.md R55), the
phase it leaves (10_state.md R24), and runs of several commands. -/

namespace Sys2Proof.Machine

/-! ## Invariants -/

/-- A Tiger context at a command boundary (R26, R29): fewer than 64 pending bytes; READY is exactly the INIT context; in
ACCUM at least one byte was absorbed and `fill = total_length mod 64`. -/
abbrev TigerCtx.Inv (C : TigerCtx) : Prop :=
  C.pb.length < 64 ∧ (C.phase = .ready → C = tigerInitCtx)
    ∧ (C.phase = .accum → 1 ≤ C.totalLength.toNat ∧ C.pb.length = C.totalLength.toNat % 64)

/-- A RadioGatun context at a command boundary (R28, R29): fewer pending bytes than a block; READY is exactly the INIT
context. -/
abbrev RGCtx.Inv {W : Nat} (C : RGCtx W) : Prop :=
  C.pb.length < rgCap W ∧ (C.phase = .ready → C = rgInitCtx W)

/-- The invariant of the block: that of each context, STATUS never 7 (R31), and the last response carrying STATUS (R80). -/
abbrev State.Inv (s : State) : Prop :=
  s.tiger.Inv ∧ s.tiger2.Inv ∧ s.rg32.Inv ∧ s.rg64.Inv ∧ s.status ≠ 7
    ∧ ∀ r ∈ s.response, r.status = s.status

/-! ## The status a command must report -/

/-- The phase of an engine's context. -/
def State.phaseOf (s : State) : Engine → Phase
  | .tiger => s.tiger.phase
  | .tiger2 => s.tiger2.phase
  | .rg32 => s.rg32.phase
  | .rg64 => s.rg64.phase

/-- The operations that read a context and so need it initialised (R261, R270). -/
def needsInit : Op → Bool
  | .absorb => true
  | .finalize => true
  | .save => true
  | .init => false
  | .transform => false
  | .blank => false
  | .load => false

/-- Whether a Tiger engine's context would exceed the limit by taking `n` more bytes (R266). A RadioGatun engine has no
counter. -/
def State.exceedsLimit (s : State) (e : Engine) (n : Nat) : Bool :=
  match e with
  | .tiger => decide (Config.tigerLengthLimit < s.tiger.totalLength.toNat + n)
  | .tiger2 => decide (Config.tigerLengthLimit < s.tiger2.totalLength.toNat + n)
  | .rg32 => false
  | .rg64 => false

/-- Whether an image passes every check of its engine's LOAD (R267). -/
def imageValid (e : Engine) (img : Bytes) : Bool :=
  match e with
  | .tiger => tigerImageValid Config.tigerLengthLimit .tiger img
  | .tiger2 => tigerImageValid Config.tigerLengthLimit .tiger2 img
  | .rg32 => rgImageValid 32 .rg32 img
  | .rg64 => rgImageValid 64 .rg64 img

/-- The status R270 gives a legal command: the first cause that applies, in its order, or OK. -/
def expectedStatus (i : Instr) (s : State) : Status :=
  if i.operandLengthOk = false then .operandLength
  else if needsInit (opEngine i).1 ∧ s.phaseOf (opEngine i).2 = .uninit then .notInitialized
  else if (opEngine i).1 = .finalize ∧ i.outlenOk = false then .sizeMismatch
  else if (opEngine i).1 = .absorb ∧ s.exceedsLimit (opEngine i).2 i.arg.length then .inputTooLarge
  else if (opEngine i).1 = .load ∧ imageValid (opEngine i).2 i.arg = false then .badContext
  else .ok

/-- The status R270 gives a command as the host issues it: ILLEGAL_COMMAND before all else. -/
def expectedCommandStatus (c : Command) (s : State) : Status :=
  match decode c with
  | .error _ => .illegalCommand
  | .ok i => expectedStatus i s

/-! ## The two ways a command ends, written out -/

/-- STATUS and the response both carry a fault code, and the result is `[]` (R263). -/
def State.faulted (s : State) (code : BitVec 3) : State :=
  { s with status := code, response := some { status := code, res := [] } }

/-- STATUS and the response both carry OK, with the command's result (R80, R260). -/
def State.answered (s : State) (res : Bytes) : State :=
  { s with status := 0, response := some { status := 0, res := res } }

/-- What LOAD asks of a 104-byte Tiger image for the engine numbered `eng` (R114). -/
abbrev tigerImageAccepted (eng : Byte) (img : Bytes) : Prop :=
  (img.getD 0 0 = 1 ∨ img.getD 0 0 = 2)
    ∧ (img.getD 1 0).toNat < 64
    ∧ img.getD 2 0 = eng
    ∧ (∀ k < 8, 3 ≤ k → img.getD k 0 = 0)
    ∧ (leLoad 64 img 32).toNat % 64 = (img.getD 1 0).toNat
    ∧ (leLoad 64 img 32).toNat ≤ Config.tigerLengthLimit
    ∧ (img.getD 0 0 = 2 → leLoad 64 img 32 ≠ 0)
    ∧ (img.getD 0 0 = 1 → leLoad 64 img 32 = 0 ∧ leLoad 64 img 8 = 0x0123456789ABCDEF
        ∧ leLoad 64 img 16 = 0xFEDCBA9876543210 ∧ leLoad 64 img 24 = 0xF096A5B4C3B2E187)

/-- What LOAD asks of a RadioGatun image for the engine numbered `eng` with words of `W` bits (R238). -/
abbrev rgImageAccepted (W : Nat) (eng : Byte) (img : Bytes) : Prop :=
  (img.getD 0 0 = 1 ∨ img.getD 0 0 = 2)
    ∧ (img.getD 1 0).toNat < 3 * (W / 8)
    ∧ img.getD 2 0 = eng
    ∧ (∀ k < 8, 3 ≤ k → img.getD k 0 = 0)
    ∧ (img.getD 0 0 = 1 → img.getD 1 0 = 0 ∧ ∀ k < 58, leLoad W img (8 + W / 8 * k) = 0)

/-! ## Which context a command touches -/

/-- The pure commands (R75): COMPRESS, ROUND and BLANK. -/
def isPure (i : Instr) : Bool := (opEngine i).1 == .transform || (opEngine i).1 == .blank

/-- Two states hold the same context for engine `e`. -/
abbrev State.sameCtx (s t : State) : Engine → Prop
  | .tiger => t.tiger = s.tiger
  | .tiger2 => t.tiger2 = s.tiger2
  | .rg32 => t.rg32 = s.rg32
  | .rg64 => t.rg64 = s.rg64

/-- Two states hold the same four contexts. -/
abbrev State.sameCtxs (s t : State) : Prop := ∀ e, s.sameCtx t e

/-- The phase a command that completes OK leaves in its engine's context (table of R24): `before` is the phase it found. -/
def phaseAfter (i : Instr) (before : Phase) : Phase :=
  match (opEngine i).1 with
  | .init => .ready
  | .absorb => if i.arg.length = 0 then before else .accum
  | .finalize => .ready
  | .transform => before
  | .blank => before
  | .save => before
  | .load => if i.arg.getD 0 0 = 1 then .ready else .accum

/-- The length of the result of a command that completes OK (table of R76). -/
def resultLen (i : Instr) : Nat :=
  match opEngine i with
  | (.init, _) => 0
  | (.absorb, _) => 0
  | (.finalize, .tiger) => 24
  | (.finalize, .tiger2) => 24
  | (.finalize, .rg32) => 32
  | (.finalize, .rg64) => 32
  | (.transform, .tiger) => 24
  | (.transform, .tiger2) => 24
  | (.transform, .rg32) => 232
  | (.transform, .rg64) => 464
  | (.blank, .rg32) => 232
  | (.blank, _) => 464
  | (.save, .tiger) => 104
  | (.save, .tiger2) => 104
  | (.save, .rg32) => 252
  | (.save, .rg64) => 496
  | (.load, _) => 0

/-! ## Runs -/

/-- INIT of an engine. -/
def initOf : Engine → Instr
  | .tiger => .tigerInit [] 0
  | .tiger2 => .tiger2Init [] 0
  | .rg32 => .rg32Init [] 0
  | .rg64 => .rg64Init [] 0

/-- ABSORB of an engine. -/
def absorbOf (e : Engine) (arg : Bytes) : Instr :=
  match e with
  | .tiger => .tigerAbsorb arg 0
  | .tiger2 => .tiger2Absorb arg 0
  | .rg32 => .rg32Absorb arg 0
  | .rg64 => .rg64Absorb arg 0

/-- FINALIZE of an engine, with a buffer of its digest size. -/
def finalizeOf : Engine → Instr
  | .tiger => .tigerFinalize [] 24
  | .tiger2 => .tiger2Finalize [] 24
  | .rg32 => .rg32Finalize [] 32
  | .rg64 => .rg64Finalize [] 32

/-- SAVE of an engine. -/
def saveOf : Engine → Instr
  | .tiger => .tigerSave [] 0
  | .tiger2 => .tiger2Save [] 0
  | .rg32 => .rg32Save [] 0
  | .rg64 => .rg64Save [] 0

/-- A transaction decodes to the command of an operation and engine with an operand (R74, R77); its outlen is left to the
statement that uses this. -/
def emits (c : Command) (op : Op) (eng : Engine) (arg : Bytes) : Prop :=
  ∃ i, decode c = .ok i ∧ opEngine i = (op, eng) ∧ i.arg = arg

/-- Several commands one after the other (R55), stopping at the first that does not answer a next state. -/
def execAll : List Instr → State → Host.Outcome State Fault Refusal
  | [], s => .next s
  | i :: is, s =>
    match exec i s with
    | .next t => execAll is t
    | .fault r => .fault r
    | .refused r => .refused r

end Sys2Proof.Machine
end

