-- ==== Sys2Proof/Certificates/Slice0/Obligations.lean ====
section
/-! DEFINITION. The statements for the provers, from the numbered rules of spec/: encoding, the step, the fault rules, the
invariant, each command's result and frame, the streams, the algorithms' second forms, and the whole-machine rules. A
state of the form `s.answered res` is s with STATUS 0 and the response (0, res); `s.faulted c` is s with STATUS c and the
response (c, []). -/

open Sys2Proof Sys2Proof.Machine

/-- Decode and encode agree on every command and every transaction (R71, R72, R73, R74, R84). -/
def Obligations.DecodeEncodeAgree : Prop :=
  ∀ (c : Command) (i : Instr), decode c = .ok i ↔ c = encode i

/-- Codes written out from the map decode to the commands it lists (R74). -/
def Obligations.ListedCodesDecode : Prop :=
  (∀ arg n, decode { cmd := 0b00000000, arg := arg, outlen := n } = .ok (.tigerInit arg n))
    ∧ (∀ arg n, decode { cmd := 0b00000101, arg := arg, outlen := n } = .ok (.tiger2Absorb arg n))
    ∧ (∀ arg n, decode { cmd := 0b00001010, arg := arg, outlen := n } = .ok (.rg32Finalize arg n))
    ∧ (∀ arg n, decode { cmd := 0b00001111, arg := arg, outlen := n } = .ok (.rg64Round arg n))
    ∧ (∀ arg n, decode { cmd := 0b00010010, arg := arg, outlen := n } = .ok (.rg32Blank arg n))
    ∧ (∀ arg n, decode { cmd := 0b00010111, arg := arg, outlen := n } = .ok (.rg64Save arg n))
    ∧ (∀ arg n, decode { cmd := 0b00011001, arg := arg, outlen := n } = .ok (.tiger2Load arg n))
    ∧ (∀ arg n, decode { cmd := 0b00010000, arg := arg, outlen := n } = .error .blankOnTiger)
    ∧ (∀ arg n, decode { cmd := 0b00011100, arg := arg, outlen := n } = .error .reservedOp)

/-- Of the 256 codes 26 are legal and 230 are illegal (R74). -/
def Obligations.LegalCodesAre26Of256 : Prop :=
  ((List.range 256).filter fun n => (decodeTableWord 8 n).isSome).length = 26
    ∧ ((List.range 256).filter fun n => (decodeTableWord 8 n).isNone).length = 230

/-- An illegal code completes with ILLEGAL_COMMAND and no other effect (R264). -/
def Obligations.IllegalCodesRaiseIllegalCommand : Prop :=
  ∀ (s : State) (c : Command) (rest : List Command), s.pending = c :: rest →
    ((c.cmd.toNat / 32 ≠ 0 ∨ c.cmd.toNat / 4 % 8 = 7 ∨ (c.cmd.toNat / 4 % 8 = 4 ∧ c.cmd.toNat % 4 ≤ 1)) ↔
      (c.cmd.toNat = 0x10 ∨ c.cmd.toNat = 0x11 ∨ 0x1C ≤ c.cmd.toNat))
    ∧ ((c.cmd.toNat = 0x10 ∨ c.cmd.toNat = 0x11 ∨ 0x1C ≤ c.cmd.toNat) →
        step s = .next { s with
          pending := rest
          index := s.index + 1
          status := 1
          response := some { status := 1, res := [] } })

/-- A step runs the decoded command (R22, R55, R84). -/
def Obligations.StepRunsTheDecodedCommand : Prop :=
  ∀ (s : State) (c : Command) (rest : List Command) (i : Instr), s.pending = c :: rest → decode c = .ok i →
    step s = exec i { s with pending := rest, index := s.index + 1 }

/-- With no command pending the block waits (R291); that waiting is a step which changes nothing is the MODEL'S choice, log 7 (70_reset_and_hazards.md R291, log 7 (the model's choice)). -/
def Obligations.StepWaitsWithNothingPending : Prop :=
  ∀ s : State, s.pending = [] → step s = .next s

/-- Every command advances the host's index by one and leaves the queue behind it, whatever its status (R22, R55). -/
def Obligations.EveryCommandAdvancesTheIndex : Prop :=
  ∀ (s : State) (c : Command) (rest : List Command), s.pending = c :: rest →
    ∃ t, step s = .next t ∧ t.index = s.index + 1 ∧ t.pending = rest

/-- Every command completes with exactly one status code: no command stops the block (70_reset_and_hazards.md R295 draws it as an inference) (R260, R269). -/
def Obligations.EveryCommandCompletes : Prop :=
  (∀ (i : Instr) (s : State), ∃ t res, exec i s = .next t ∧ t.status.toNat ≤ 6
      ∧ t.response = some { status := t.status, res := res })
    ∧ ∀ s : State, ∃ t, step s = .next t

/-- When several causes apply, the first of the priority order is reported (R270). -/
def Obligations.StatusIsTheFirstCauseThatApplies : Prop :=
  ∀ (s t : State) (c : Command) (rest : List Command), s.pending = c :: rest → step s = .next t →
    t.status = (match expectedCommandStatus c s with
      | .ok => 0
      | .illegalCommand => 1
      | .notInitialized => 2
      | .sizeMismatch => 3
      | .inputTooLarge => 4
      | .badContext => 5
      | .operandLength => 6)

/-- A faulting command has no effect except on STATUS (R263). -/
def Obligations.FaultingCommandsOnlyWriteStatus : Prop :=
  ∀ (i : Instr) (s t : State), exec i s = .next t → t.status ≠ 0 →
    t = { s with status := t.status, response := some { status := t.status, res := [] } }

/-- Every step keeps the invariant of the block (10_state.md R29, and R26 and R28, which the spec marks as derived) (R29, R31, R80, R102, R104, R220, R222). -/
def Obligations.StepKeepsTheInvariant : Prop :=
  ∀ s t : State, s.Inv → step s = .next t → t.Inv

/-- The state after reset meets the invariant; the fill bound of its UNINIT contexts rests on the MODEL'S reset values, log 1 (R29, R34). -/
def Obligations.ResetMeetsTheInvariant : Prop :=
  State.reset.Inv

/-- Reset leaves every context UNINIT and STATUS = 0 (R34, R290). -/
def Obligations.ResetLeavesEveryContextUninit : Prop :=
  (∀ e : Engine, State.reset.phaseOf e = .uninit) ∧ State.reset.status = 0

/-- In phase UNINIT ABSORB, FINALIZE and SAVE answer NOT_INITIALIZED, and no other command does, whatever the data fields hold (R34, R261, R292). -/
def Obligations.UninitContextRefusesAbsorbFinalizeAndSave : Prop :=
  ∀ (i : Instr) (s : State), s.phaseOf (opEngine i).2 = .uninit →
    ((opEngine i).1 = .absorb ∨ (((opEngine i).1 = .finalize ∨ (opEngine i).1 = .save) ∧ i.arg = []) →
      exec i s = .next { s with status := 2, response := some { status := 2, res := [] } })
    ∧ ∀ t, (opEngine i).1 ≠ .absorb → (opEngine i).1 ≠ .finalize → (opEngine i).1 ≠ .save →
        exec i s = .next t → t.status ≠ 2

/-- TIGER.INIT and TIGER2.INIT write the INIT context and nothing else (R101, R102, R103). -/
def Obligations.TigerInitWritesTheInitContext : Prop :=
  ∀ (s : State) (arg : Bytes) (n : Nat),
    exec (.tigerInit [] n) s = .next (({ s with
      tiger := { phase := .ready, pb := [], totalLength := 0
                 cv := { a := 0x0123456789ABCDEF, b := 0xFEDCBA9876543210, c := 0xF096A5B4C3B2E187 } } } : State).answered [])
    ∧ exec (.tiger2Init [] n) s = .next (({ s with
        tiger2 := { phase := .ready, pb := [], totalLength := 0
                    cv := { a := 0x0123456789ABCDEF, b := 0xFEDCBA9876543210, c := 0xF096A5B4C3B2E187 } } } : State).answered [])
    ∧ (arg ≠ [] → exec (.tigerInit arg n) s = .next (s.faulted 6) ∧ exec (.tiger2Init arg n) s = .next (s.faulted 6))

/-- RG32.INIT and RG64.INIT write the INIT context and nothing else (R220, R221). -/
def Obligations.RadioGatunInitWritesTheInitContext : Prop :=
  ∀ (s : State) (arg : Bytes) (n : Nat),
    exec (.rg32Init [] n) s = .next (({ s with
      rg32 := { phase := .ready, pb := [], mill := Vector.replicate 19 0, belt := Vector.replicate 39 0 } }
        : State).answered [])
    ∧ exec (.rg64Init [] n) s = .next (({ s with
        rg64 := { phase := .ready, pb := [], mill := Vector.replicate 19 0, belt := Vector.replicate 39 0 } }
          : State).answered [])
    ∧ (arg ≠ [] → exec (.rg32Init arg n) s = .next (s.faulted 6) ∧ exec (.rg64Init arg n) s = .next (s.faulted 6))

/-- ABSORB of the Tiger engines, block by block. The limit is the default 2^64 - 1 (R9; the model's choice of the default is log 4) (R104, R105, R110, R266). -/
def Obligations.TigerAbsorbTakesWholeBlocks : Prop :=
  ∀ (s : State) (arg : Bytes) (n : Nat),
    ((s.tiger.phase = .uninit → exec (.tigerAbsorb arg n) s = .next (s.faulted 2))
      ∧ (s.tiger.phase ≠ .uninit → 2 ^ 64 ≤ s.tiger.totalLength.toNat + arg.length →
          exec (.tigerAbsorb arg n) s = .next (s.faulted 4))
      ∧ (s.tiger.phase ≠ .uninit → s.tiger.totalLength.toNat + arg.length < 2 ^ 64 → s.tiger.pb.length < 64 →
          exec (.tigerAbsorb arg n) s
            = .next (({ s with tiger := tigerAbsorbedByBlocks tigerSbox s.tiger arg } : State).answered [])))
    ∧ ((s.tiger2.phase = .uninit → exec (.tiger2Absorb arg n) s = .next (s.faulted 2))
      ∧ (s.tiger2.phase ≠ .uninit → 2 ^ 64 ≤ s.tiger2.totalLength.toNat + arg.length →
          exec (.tiger2Absorb arg n) s = .next (s.faulted 4))
      ∧ (s.tiger2.phase ≠ .uninit → s.tiger2.totalLength.toNat + arg.length < 2 ^ 64 → s.tiger2.pb.length < 64 →
          exec (.tiger2Absorb arg n) s
            = .next (({ s with tiger2 := tigerAbsorbedByBlocks tigerSbox s.tiger2 arg } : State).answered [])))

/-- RG32.ABSORB and RG64.ABSORB run a round for every whole block and keep the rest (R222, R223). -/
def Obligations.RadioGatunAbsorbTakesWholeBlocks : Prop :=
  ∀ (s : State) (arg : Bytes) (n : Nat),
    ((s.rg32.phase = .uninit → exec (.rg32Absorb arg n) s = .next (s.faulted 2))
      ∧ (s.rg32.phase ≠ .uninit → s.rg32.pb.length < 12 →
          exec (.rg32Absorb arg n) s
            = .next (({ s with rg32 := rgAbsorbedByBlocks s.rg32 arg } : State).answered [])))
    ∧ ((s.rg64.phase = .uninit → exec (.rg64Absorb arg n) s = .next (s.faulted 2))
      ∧ (s.rg64.phase ≠ .uninit → s.rg64.pb.length < 24 →
          exec (.rg64Absorb arg n) s
            = .next (({ s with rg64 := rgAbsorbedByBlocks s.rg64 arg } : State).answered [])))

/-- TIGER.FINALIZE and TIGER2.FINALIZE compress the padded tail, return the 24-byte digest and write the INIT context (R100, R106, R108, R109, R110, R265). -/
def Obligations.TigerFinalizePadsAndReturnsTheDigest : Prop :=
  (∀ (s : State) (arg : Bytes) (n : Nat),
      (arg ≠ [] → exec (.tigerFinalize arg n) s = .next (s.faulted 6))
      ∧ (s.tiger.phase = .uninit → exec (.tigerFinalize [] n) s = .next (s.faulted 2))
      ∧ (s.tiger.phase ≠ .uninit → n ≠ 24 → exec (.tigerFinalize [] n) s = .next (s.faulted 3))
      ∧ (s.tiger.phase ≠ .uninit → s.tiger.pb.length < 64 →
          exec (.tigerFinalize [] 24) s = .next (({ s with tiger := tigerInitCtx } : State).answered
            (chainBytes (tigerBlocks tigerSbox s.tiger.cv
              (s.tiger.pb ++ [0x01] ++ zeros ((55 - (s.tiger.pb.length : Int)) % 64).toNat
                ++ leStore (8 * s.tiger.totalLength)))))))
    ∧ (∀ (s : State) (arg : Bytes) (n : Nat),
      (arg ≠ [] → exec (.tiger2Finalize arg n) s = .next (s.faulted 6))
      ∧ (s.tiger2.phase = .uninit → exec (.tiger2Finalize [] n) s = .next (s.faulted 2))
      ∧ (s.tiger2.phase ≠ .uninit → n ≠ 24 → exec (.tiger2Finalize [] n) s = .next (s.faulted 3))
      ∧ (s.tiger2.phase ≠ .uninit → s.tiger2.pb.length < 64 →
          exec (.tiger2Finalize [] 24) s = .next (({ s with tiger2 := tigerInitCtx } : State).answered
            (chainBytes (tigerBlocks tigerSbox s.tiger2.cv
              (s.tiger2.pb ++ [0x80] ++ zeros ((55 - (s.tiger2.pb.length : Int)) % 64).toNat
                ++ leStore (8 * s.tiger2.totalLength)))))))

/-- RG32.FINALIZE and RG64.FINALIZE absorb the padded block, return the 32-byte digest and write the INIT context (R224, R226, R227, R265). -/
def Obligations.RadioGatunFinalizePadsAndReturnsTheDigest : Prop :=
  (∀ (s : State) (arg : Bytes) (n : Nat),
      (arg ≠ [] → exec (.rg32Finalize arg n) s = .next (s.faulted 6))
      ∧ (s.rg32.phase = .uninit → exec (.rg32Finalize [] n) s = .next (s.faulted 2))
      ∧ (s.rg32.phase ≠ .uninit → n ≠ 32 → exec (.rg32Finalize [] n) s = .next (s.faulted 3))
      ∧ (s.rg32.phase ≠ .uninit → s.rg32.pb.length < 12 →
          exec (.rg32Finalize [] 32) s = .next (({ s with rg32 := rgInitCtx 32 } : State).answered
            (rgDigestOf (rgBlocks s.rg32.millBelt
              (s.rg32.pb ++ [0x01] ++ zeros (11 - s.rg32.pb.length)))))))
    ∧ (∀ (s : State) (arg : Bytes) (n : Nat),
      (arg ≠ [] → exec (.rg64Finalize arg n) s = .next (s.faulted 6))
      ∧ (s.rg64.phase = .uninit → exec (.rg64Finalize [] n) s = .next (s.faulted 2))
      ∧ (s.rg64.phase ≠ .uninit → n ≠ 32 → exec (.rg64Finalize [] n) s = .next (s.faulted 3))
      ∧ (s.rg64.phase ≠ .uninit → s.rg64.pb.length < 24 →
          exec (.rg64Finalize [] 32) s = .next (({ s with rg64 := rgInitCtx 64 } : State).answered
            (rgDigestOf (rgBlocks s.rg64.millBelt
              (s.rg64.pb ++ [0x01] ++ zeros (23 - s.rg64.pb.length)))))))

/-- TIGER.COMPRESS and TIGER2.COMPRESS return TigerCompress of their operand (R77, R78, R150, R151). -/
def Obligations.CompressReturnsTigerCompress : Prop :=
  ∀ (s : State) (h : Chain) (x : Block) (arg : Bytes) (n : Nat),
    exec (.tigerCompress (compressOperand h x) n) s = .next (s.answered (chainBytes (tigerCompress h x)))
    ∧ exec (.tiger2Compress (compressOperand h x) n) s = .next (s.answered (chainBytes (tigerCompress h x)))
    ∧ (arg.length ≠ 88 →
        exec (.tigerCompress arg n) s = .next (s.faulted 6) ∧ exec (.tiger2Compress arg n) s = .next (s.faulted 6))

/-- RG32.ROUND and RG64.ROUND return R(Inject(a, b, p)) of their operand (R77, R78, R190, R191). -/
def Obligations.RoundReturnsTheAbsorptionRound : Prop :=
  (∀ (s : State) (m : MillBelt 32) (p : Vector (BitVec 32) 3) (arg : Bytes) (n : Nat),
      exec (.rg32Round (roundOperand m p) n) s = .next (s.answered (millBeltBytes (rgRound (inject m p))))
      ∧ (arg.length ≠ 244 → exec (.rg32Round arg n) s = .next (s.faulted 6)))
    ∧ (∀ (s : State) (m : MillBelt 64) (p : Vector (BitVec 64) 3) (arg : Bytes) (n : Nat),
      exec (.rg64Round (roundOperand m p) n) s = .next (s.answered (millBeltBytes (rgRound (inject m p))))
      ∧ (arg.length ≠ 488 → exec (.rg64Round arg n) s = .next (s.faulted 6)))

/-- RG32.BLANK and RG64.BLANK return R(a, b) of their operand (R77, R78, R192, R193). -/
def Obligations.BlankReturnsTheBlankRound : Prop :=
  (∀ (s : State) (m : MillBelt 32) (arg : Bytes) (n : Nat),
      exec (.rg32Blank (millBeltBytes m) n) s = .next (s.answered (millBeltBytes (rgRound m)))
      ∧ (arg.length ≠ 232 → exec (.rg32Blank arg n) s = .next (s.faulted 6)))
    ∧ (∀ (s : State) (m : MillBelt 64) (arg : Bytes) (n : Nat),
      exec (.rg64Blank (millBeltBytes m) n) s = .next (s.answered (millBeltBytes (rgRound m)))
      ∧ (arg.length ≠ 464 → exec (.rg64Blank arg n) s = .next (s.faulted 6)))

/-- TIGER.SAVE and TIGER2.SAVE return the context image and change no context (R112, R113). -/
def Obligations.TigerSaveReturnsTheImage : Prop :=
  (∀ (s : State) (arg : Bytes) (n : Nat),
      (arg ≠ [] → exec (.tigerSave arg n) s = .next (s.faulted 6))
      ∧ (s.tiger.phase = .uninit → exec (.tigerSave [] n) s = .next (s.faulted 2))
      ∧ (s.tiger.phase ≠ .uninit → exec (.tigerSave [] n) s = .next (s.answered
          ([if s.tiger.phase = .ready then 1 else 2, BitVec.ofNat 8 s.tiger.pb.length, 0, 0, 0, 0, 0, 0]
            ++ (leStore s.tiger.cv.a ++ leStore s.tiger.cv.b ++ leStore s.tiger.cv.c)
            ++ leStore s.tiger.totalLength ++ s.tiger.pb ++ zeros (64 - s.tiger.pb.length)))))
    ∧ (∀ (s : State) (arg : Bytes) (n : Nat),
      (arg ≠ [] → exec (.tiger2Save arg n) s = .next (s.faulted 6))
      ∧ (s.tiger2.phase = .uninit → exec (.tiger2Save [] n) s = .next (s.faulted 2))
      ∧ (s.tiger2.phase ≠ .uninit → exec (.tiger2Save [] n) s = .next (s.answered
          ([if s.tiger2.phase = .ready then 1 else 2, BitVec.ofNat 8 s.tiger2.pb.length, 1, 0, 0, 0, 0, 0]
            ++ (leStore s.tiger2.cv.a ++ leStore s.tiger2.cv.b ++ leStore s.tiger2.cv.c)
            ++ leStore s.tiger2.totalLength ++ s.tiger2.pb ++ zeros (64 - s.tiger2.pb.length)))))

/-- RG32.SAVE and RG64.SAVE return the context image and change no context (R236, R237). -/
def Obligations.RadioGatunSaveReturnsTheImage : Prop :=
  (∀ (s : State) (arg : Bytes) (n : Nat),
      (arg ≠ [] → exec (.rg32Save arg n) s = .next (s.faulted 6))
      ∧ (s.rg32.phase = .uninit → exec (.rg32Save [] n) s = .next (s.faulted 2))
      ∧ (s.rg32.phase ≠ .uninit → exec (.rg32Save [] n) s = .next (s.answered
          ([if s.rg32.phase = .ready then 1 else 2, BitVec.ofNat 8 s.rg32.pb.length, 2, 0, 0, 0, 0, 0]
            ++ s.rg32.mill.toList.flatMap leStore ++ s.rg32.belt.toList.flatMap leStore
            ++ s.rg32.pb ++ zeros (12 - s.rg32.pb.length)))))
    ∧ (∀ (s : State) (arg : Bytes) (n : Nat),
      (arg ≠ [] → exec (.rg64Save arg n) s = .next (s.faulted 6))
      ∧ (s.rg64.phase = .uninit → exec (.rg64Save [] n) s = .next (s.faulted 2))
      ∧ (s.rg64.phase ≠ .uninit → exec (.rg64Save [] n) s = .next (s.answered
          ([if s.rg64.phase = .ready then 1 else 2, BitVec.ofNat 8 s.rg64.pb.length, 3, 0, 0, 0, 0, 0]
            ++ s.rg64.mill.toList.flatMap leStore ++ s.rg64.belt.toList.flatMap leStore
            ++ s.rg64.pb ++ zeros (24 - s.rg64.pb.length)))))

/-- TIGER.LOAD and TIGER2.LOAD accept exactly the images that pass every check (R114, R115, R267, R268). -/
def Obligations.TigerLoadAcceptsExactlyTheValidImages : Prop :=
  (∀ (s : State) (arg : Bytes) (n : Nat),
      (arg.length ≠ 104 → exec (.tigerLoad arg n) s = .next (s.faulted 6))
      ∧ (arg.length = 104 → ¬ tigerImageAccepted 0 arg → exec (.tigerLoad arg n) s = .next (s.faulted 5))
      ∧ (arg.length = 104 → tigerImageAccepted 0 arg →
          exec (.tigerLoad arg n) s = .next (({ s with
            tiger := { phase := if arg.getD 0 0 = 1 then .ready else .accum
                       pb := (arg.drop 40).take (arg.getD 1 0).toNat
                       cv := { a := leLoad 64 arg 8, b := leLoad 64 arg 16, c := leLoad 64 arg 24 }
                       totalLength := leLoad 64 arg 32 } } : State).answered [])))
    ∧ (∀ (s : State) (arg : Bytes) (n : Nat),
      (arg.length ≠ 104 → exec (.tiger2Load arg n) s = .next (s.faulted 6))
      ∧ (arg.length = 104 → ¬ tigerImageAccepted 1 arg → exec (.tiger2Load arg n) s = .next (s.faulted 5))
      ∧ (arg.length = 104 → tigerImageAccepted 1 arg →
          exec (.tiger2Load arg n) s = .next (({ s with
            tiger2 := { phase := if arg.getD 0 0 = 1 then .ready else .accum
                        pb := (arg.drop 40).take (arg.getD 1 0).toNat
                        cv := { a := leLoad 64 arg 8, b := leLoad 64 arg 16, c := leLoad 64 arg 24 }
                        totalLength := leLoad 64 arg 32 } } : State).answered [])))

/-- RG32.LOAD and RG64.LOAD accept exactly the images that pass every check (R238, R239, R267, R268). -/
def Obligations.RadioGatunLoadAcceptsExactlyTheValidImages : Prop :=
  (∀ (s : State) (arg : Bytes) (n : Nat),
      (arg.length ≠ 252 → exec (.rg32Load arg n) s = .next (s.faulted 6))
      ∧ (arg.length = 252 → ¬ rgImageAccepted 32 2 arg → exec (.rg32Load arg n) s = .next (s.faulted 5))
      ∧ (arg.length = 252 → rgImageAccepted 32 2 arg →
          exec (.rg32Load arg n) s = .next (({ s with
            rg32 := { phase := if arg.getD 0 0 = 1 then .ready else .accum
                      pb := (arg.drop 240).take (arg.getD 1 0).toNat
                      mill := Vector.ofFn fun i => leLoad 32 arg (8 + 4 * i.val)
                      belt := Vector.ofFn fun k => leLoad 32 arg (84 + 4 * k.val) } } : State).answered [])))
    ∧ (∀ (s : State) (arg : Bytes) (n : Nat),
      (arg.length ≠ 496 → exec (.rg64Load arg n) s = .next (s.faulted 6))
      ∧ (arg.length = 496 → ¬ rgImageAccepted 64 3 arg → exec (.rg64Load arg n) s = .next (s.faulted 5))
      ∧ (arg.length = 496 → rgImageAccepted 64 3 arg →
          exec (.rg64Load arg n) s = .next (({ s with
            rg64 := { phase := if arg.getD 0 0 = 1 then .ready else .accum
                      pb := (arg.drop 472).take (arg.getD 1 0).toNat
                      mill := Vector.ofFn fun i => leLoad 64 arg (8 + 8 * i.val)
                      belt := Vector.ofFn fun k => leLoad 64 arg (160 + 8 * k.val) } } : State).answered [])))

/-- Loading a saved Tiger context gives back that context, from any state (R30, R112, R113, R114, R115). -/
def Obligations.TigerLoadOfSaveIsTheIdentity : Prop :=
  (∀ (s u : State) (n m : Nat), s.tiger.Inv → s.tiger.phase ≠ .uninit →
      ∃ img, exec (.tigerSave [] n) s = .next (s.answered img)
        ∧ exec (.tigerLoad img m) u = .next (({ u with tiger := s.tiger } : State).answered []))
    ∧ (∀ (s u : State) (n m : Nat), s.tiger2.Inv → s.tiger2.phase ≠ .uninit →
      ∃ img, exec (.tiger2Save [] n) s = .next (s.answered img)
        ∧ exec (.tiger2Load img m) u = .next (({ u with tiger2 := s.tiger2 } : State).answered []))

/-- Loading a saved RadioGatun context gives back that context, from any state (R30, R236, R237, R238, R239). -/
def Obligations.RadioGatunLoadOfSaveIsTheIdentity : Prop :=
  (∀ (s u : State) (n m : Nat), s.rg32.Inv → s.rg32.phase ≠ .uninit →
      ∃ img, exec (.rg32Save [] n) s = .next (s.answered img)
        ∧ exec (.rg32Load img m) u = .next (({ u with rg32 := s.rg32 } : State).answered []))
    ∧ (∀ (s u : State) (n m : Nat), s.rg64.Inv → s.rg64.phase ≠ .uninit →
      ∃ img, exec (.rg64Save [] n) s = .next (s.answered img)
        ∧ exec (.rg64Load img m) u = .next (({ u with rg64 := s.rg64 } : State).answered []))

/-- LOAD ignores the image bytes past the fill (R114, R115, R238, R239). -/
def Obligations.LoadIgnoresTheBytesPastFill : Prop :=
  ∀ (s : State) (x y : Bytes) (n m : Nat),
    (x.length = 104 → y.length = 104 → x.take (40 + (x.getD 1 0).toNat) = y.take (40 + (x.getD 1 0).toNat) →
      exec (.tigerLoad x n) s = exec (.tigerLoad y m) s ∧ exec (.tiger2Load x n) s = exec (.tiger2Load y m) s)
    ∧ (x.length = 252 → y.length = 252 → x.take (240 + (x.getD 1 0).toNat) = y.take (240 + (x.getD 1 0).toNat) →
      exec (.rg32Load x n) s = exec (.rg32Load y m) s)
    ∧ (x.length = 496 → y.length = 496 → x.take (472 + (x.getD 1 0).toNat) = y.take (472 + (x.getD 1 0).toNat) →
      exec (.rg64Load x n) s = exec (.rg64Load y m) s)

/-- The split of a stream into ABSORB operands leaves no trace (10_state.md R33, which the spec marks as derived from the two ABSORB rules) (R52, R104, R222). -/
def Obligations.SplittingTheStreamLeavesNoTrace : Prop :=
  ∀ (e : Engine) (parts : List Bytes) (s : State), s.exceedsLimit e parts.flatten.length = false →
    ∃ t u, execAll (parts.map (absorbOf e)) s = .next t ∧ exec (absorbOf e parts.flatten) s = .next u
      ∧ t.sameCtxs u

/-- INIT, ABSORB in any split, FINALIZE give TigerHash of the whole message (40_tiger_engine.md R111, which the spec marks as derived) (R102, R104, R106). -/
def Obligations.TigerStreamGivesTheWholeMessageHash : Prop :=
  ∀ (e : Engine) (parts : List Bytes) (s : State), e = .tiger ∨ e = .tiger2 → parts.flatten.length < 2 ^ 64 →
    ∃ t, execAll ([initOf e] ++ parts.map (absorbOf e) ++ [finalizeOf e]) s = .next t
      ∧ t.response = some { status := 0, res := tigerHash tigerSbox e parts.flatten }

/-- INIT, ABSORB in any split, FINALIZE give RGHash of the whole message (46_radiogatun_engine.md R228, which the spec marks as derived) (R220, R222, R224). -/
def Obligations.RadioGatunStreamGivesTheWholeMessageHash : Prop :=
  ∀ (parts : List Bytes) (s : State),
    (∃ t, execAll ([initOf .rg32] ++ parts.map (absorbOf .rg32) ++ [finalizeOf .rg32]) s = .next t
      ∧ t.response = some { status := 0, res := rgHash 32 parts.flatten })
    ∧ (∃ t, execAll ([initOf .rg64] ++ parts.map (absorbOf .rg64) ++ [finalizeOf .rg64]) s = .next t
      ∧ t.response = some { status := 0, res := rgHash 64 parts.flatten })

/-- A FINALIZE straight after a FINALIZE returns the digest of the empty message (R108, R109, R226, R227, R293, 95_test_vectors.md table 1.1). -/
def Obligations.SecondFinalizeReturnsTheEmptyDigest : Prop :=
  ∀ (e : Engine) (s t : State), exec (finalizeOf e) s = .next t → t.status = 0 →
    ∃ u, exec (finalizeOf e) t = .next u ∧ u.response = some { status := 0, res := (match e with
      | .tiger => [0x32, 0x93, 0xAC, 0x63, 0x0C, 0x13, 0xF0, 0x24, 0x5F, 0x92, 0xBB, 0xB1,
                   0x76, 0x6E, 0x16, 0x16, 0x7A, 0x4E, 0x58, 0x49, 0x2D, 0xDE, 0x73, 0xF3]
      | .tiger2 => [0x44, 0x41, 0xBE, 0x75, 0xF6, 0x01, 0x87, 0x73, 0xC2, 0x06, 0xC2, 0x27,
                    0x45, 0x37, 0x4B, 0x92, 0x4A, 0xA8, 0x31, 0x3F, 0xEF, 0x91, 0x9F, 0x41]
      | .rg32 => [0xF3, 0x00, 0x28, 0xB5, 0x4A, 0xFA, 0xB6, 0xB3, 0xE5, 0x53, 0x55, 0xD2, 0x77, 0x71, 0x11, 0x09,
                  0xA1, 0x9B, 0xED, 0xA7, 0x09, 0x10, 0x67, 0xE9, 0xA4, 0x92, 0xFB, 0x5E, 0xD9, 0xF2, 0x01, 0x17]
      | .rg64 => [0x64, 0xA9, 0xA7, 0xFA, 0x13, 0x99, 0x05, 0xB5, 0x7B, 0xDA, 0xB3, 0x5D, 0x33, 0xAA, 0x21, 0x63,
                  0x70, 0xD5, 0xEA, 0xE1, 0x3E, 0x77, 0xBF, 0xCD, 0xD8, 0x55, 0x13, 0x40, 0x83, 0x11, 0xA5, 0x84]) }

/-- The Tiger pad is 9 to 72 bytes long and completes the last block (40_tiger_engine.md R107 and R111, which the spec marks as derived) (R106, R110). -/
def Obligations.TigerPadEndsTheMessageOnABlock : Prop :=
  ∀ (e : Engine) (n : Nat),
    9 ≤ (tigerPad e n).length ∧ (tigerPad e n).length ≤ 72
    ∧ n + (tigerPad e n).length = 64 * ((n + 9 + 63) / 64)
    ∧ (n % 64 ≤ 55 → n + (tigerPad e n).length = 64 * (n / 64 + 1))
    ∧ (56 ≤ n % 64 → n + (tigerPad e n).length = 64 * (n / 64 + 2))

/-- COMPRESS on TIGER_IV and a block equals the chaining value ABSORB of the block leaves after INIT (R105, R150, R152). -/
def Obligations.CompressIsAbsorbOfOneBlock : Prop :=
  ∀ (s : State) (B : Bytes) (n : Nat), B.length = 64 →
    (∃ t, execAll [.tigerInit [] 0, .tigerAbsorb B 0] s = .next t ∧ t.tiger.pb = [] ∧ t.tiger.phase = .accum
      ∧ exec (.tigerCompress (chainBytes tigerIV ++ B) n) s = .next (s.answered (chainBytes t.tiger.cv)))
    ∧ (∃ t, execAll [.tiger2Init [] 0, .tiger2Absorb B 0] s = .next t ∧ t.tiger2.pb = [] ∧ t.tiger2.phase = .accum
      ∧ exec (.tiger2Compress (chainBytes tigerIV ++ B) n) s = .next (s.answered (chainBytes t.tiger2.cv)))

/-- ROUND on a context's mill and belt and a block equals what ABSORB of the block leaves (R190, R191, R194). -/
def Obligations.RoundIsAbsorbOfOneBlock : Prop :=
  (∀ (s : State) (B : Bytes) (n : Nat), s.rg32.phase ≠ .uninit → s.rg32.pb = [] → B.length = 12 →
      ∃ t, exec (.rg32Absorb B 0) s = .next t ∧ t.rg32.pb = []
        ∧ exec (.rg32Round (millBeltBytes s.rg32.millBelt ++ B) n) s
            = .next (s.answered (millBeltBytes t.rg32.millBelt)))
    ∧ (∀ (s : State) (B : Bytes) (n : Nat), s.rg64.phase ≠ .uninit → s.rg64.pb = [] → B.length = 24 →
      ∃ t, exec (.rg64Absorb B 0) s = .next t ∧ t.rg64.pb = []
        ∧ exec (.rg64Round (millBeltBytes s.rg64.millBelt ++ B) n) s
            = .next (s.answered (millBeltBytes t.rg64.millBelt)))

/-- ROUND with input words 0, 0, 0 equals BLANK on the same mill and belt (R190, R191, R192, R193). -/
def Obligations.RoundOfZeroInputIsBlank : Prop :=
  ∀ (s : State) (arg : Bytes) (n m : Nat),
    (arg.length = 232 → exec (.rg32Round (arg ++ zeros 12) n) s = exec (.rg32Blank arg m) s)
    ∧ (arg.length = 464 → exec (.rg64Round (arg ++ zeros 24) n) s = exec (.rg64Blank arg m) s)

/-- TIGER and TIGER2 contexts that are equal stay equal under the same INIT and ABSORB, and their digests differ only through the marker byte (40_tiger_engine.md R116, which the spec marks as derived) (R100, R103, R105, R106). -/
def Obligations.TigerEnginesAgreeUntilFinalize : Prop :=
  ∀ (s t : State) (arg : Bytes) (n m : Nat), s.tiger = s.tiger2 →
    (execAll [.tigerInit arg n, .tiger2Init arg m] s = .next t → t.tiger = t.tiger2)
    ∧ (execAll [.tigerAbsorb arg n, .tiger2Absorb arg m] s = .next t → t.tiger = t.tiger2)
    ∧ (s.tiger.phase ≠ .uninit → s.tiger.pb.length < 64 →
        ∃ (post : Bytes) (t1 t2 : State),
          exec (.tigerFinalize [] 24) s = .next t1 ∧ exec (.tiger2Finalize [] 24) s = .next t2
          ∧ t1.response = some
              { status := 0, res := chainBytes (tigerBlocks tigerSbox s.tiger.cv (s.tiger.pb ++ [0x01] ++ post)) }
          ∧ t2.response = some
              { status := 0, res := chainBytes (tigerBlocks tigerSbox s.tiger.cv (s.tiger.pb ++ [0x80] ++ post)) }
          ∧ 64 ∣ s.tiger.pb.length + 1 + post.length ∧ t1.tiger = t2.tiger2)

/-- The written-out table of 24 rounds computes TigerCompress, for every S-box table (R140, R142, R144). -/
def Obligations.RoundTableComputesTigerCompress : Prop :=
  ∀ (S : Sbox) (h : Chain) (x : Block), tigerCompressTable S h x = tigerCompressWith S h x

/-- Every mill word follows gamma, pi with the tabulated rotations, theta and iota (R180, R181, R182, R183). -/
def Obligations.MillWordsFollowGammaPiThetaIota : Prop :=
  (∀ (a : Vector (BitVec 32) 19) (i : Fin 19),
      let src := [0, 7, 14, 2, 9, 16, 4, 11, 18, 6, 13, 1, 8, 15, 3, 10, 17, 5, 12]
      let amount := [0, 1, 3, 6, 10, 15, 21, 28, 4, 13, 23, 2, 14, 27, 9, 24, 8, 25, 11]
      let g := fun k : Nat => a[k % 19]! ^^^ (a[(k + 1) % 19]! ||| ~~~a[(k + 2) % 19]!)
      let r := fun j : Nat => (g (src.getD (j % 19) 0)).rotateRight (amount.getD (j % 19) 0)
      (millFn a)[i] = r i.val ^^^ r (i.val + 1) ^^^ r (i.val + 4) ^^^ (if i = 0 then 1 else 0))
    ∧ (∀ (a : Vector (BitVec 64) 19) (i : Fin 19),
      let src := [0, 7, 14, 2, 9, 16, 4, 11, 18, 6, 13, 1, 8, 15, 3, 10, 17, 5, 12]
      let amount := [0, 1, 3, 6, 10, 15, 21, 28, 36, 45, 55, 2, 14, 27, 41, 56, 8, 25, 43]
      let g := fun k : Nat => a[k % 19]! ^^^ (a[(k + 1) % 19]! ||| ~~~a[(k + 2) % 19]!)
      let r := fun j : Nat => (g (src.getD (j % 19) 0)).rotateRight (amount.getD (j % 19) 0)
      (millFn a)[i] = r i.val ^^^ r (i.val + 1) ^^^ r (i.val + 4) ^^^ (if i = 0 then 1 else 0))

/-- One round moves the belt one stage and feeds forward from the old mill and the old last stage (R184). -/
def Obligations.RoundMovesTheBeltAndFeedsForward : Prop :=
  ∀ W ∈ [32, 64], ∀ m : MillBelt W,
    (∀ k : Fin 39, (rgRound m).belt[k] = m.belt[(k.val + 36) % 39]!
      ^^^ (if k.val ∈ [3, 7, 11, 12, 16, 20, 21, 25, 29, 30, 34, 38] then m.mill[k.val / 3]! else 0))
    ∧ (∀ i : Fin 19, (rgRound m).mill[i] = (millFn m.mill)[i]
      ^^^ (if i.val ∈ [13, 14, 15] then m.belt[36 + (i.val - 13)]! else 0))

/-- Injection adds the input words to belt stage 0 and mill words 16 to 18 and changes no other word (R185). -/
def Obligations.InjectionTouchesSixWords : Prop :=
  ∀ W ∈ [32, 64], ∀ (m : MillBelt W) (p : Vector (BitVec W) 3),
    (∀ k : Fin 39, (inject m p).belt[k] = if k.val < 3 then m.belt[k] ^^^ p[k.val]! else m.belt[k])
    ∧ (∀ i : Fin 19, (inject m p).mill[i] = if 16 ≤ i.val then m.mill[i] ^^^ p[i.val - 16]! else m.mill[i])
    ∧ roundIn m p = rgRound (inject m p)

/-- Little-endian load is the weighted sum of its bytes, store gives the bytes in order, and loading what was stored gives it back (R14). -/
def Obligations.LittleEndianLoadAndStore : Prop :=
  ∀ (b : Nat),
    (∀ (s : Bytes) (o : Nat), o + b ≤ s.length →
      (leLoad (8 * b) s o).toNat = ((List.range b).map fun k => (s.getD (o + k) 0).toNat * 2 ^ (8 * k)).sum)
    ∧ (∀ (x : BitVec (8 * b)), (leStore x).length = b
        ∧ (∀ k < b, (leStore x).getD k 0 = (x.extractLsb (8 * k + 7) (8 * k)).setWidth 8)
        ∧ leLoad (8 * b) (leStore x) 0 = x)

/-- rotr moves bit i to bit (i - r) mod n, and rotl is its inverse (R12). -/
def Obligations.RotationMovesEachBit : Prop :=
  ∀ (n : Nat) (x : BitVec n) (r : Nat), r < n →
    (∀ i < n, (rotr x r).getLsbD ((i + n - r) % n) = x.getLsbD i) ∧ rotl (rotr x r) r = x

/-- Under any length limit of at most 2^64 - 1, ABSORB counts exactly and never exceeds the limit (R9, R104, R110, R266). -/
def Obligations.LengthCounterNeverWraps : Prop :=
  ∀ (S : Sbox) (limit : Nat) (C : TigerCtx) (arg : Bytes), limit ≤ 2 ^ 64 - 1 →
    (∀ D res, tigerAbsorb S limit C arg = .ok (D, res) →
      D.totalLength.toNat = C.totalLength.toNat + arg.length ∧ D.totalLength.toNat ≤ limit)
    ∧ (tigerAbsorb S limit C arg = .error .inputTooLarge ↔
        C.phase ≠ .uninit ∧ limit < C.totalLength.toNat + arg.length)
    ∧ (tigerLengthField C).toNat = 8 * C.totalLength.toNat % 2 ^ 64

/-- A command writes only its own engine's context, STATUS and the response (R55, R75, R273). -/
def Obligations.CommandsWriteOnlyTheirOwnContext : Prop :=
  ∀ (i : Instr) (s t : State), exec i s = .next t →
    (∀ e, e ≠ (opEngine i).2 → s.sameCtx t e) ∧ (isPure i = true → s.sameCtxs t)
    ∧ t.pending = s.pending ∧ t.index = s.index

/-- What a command does depends on nothing but its own engine's context (R30, R55). -/
def Obligations.CommandsReadOnlyTheirOwnContext : Prop :=
  ∀ (i : Instr) (s u : State), s.sameCtx u (opEngine i).2 →
    ∃ t v, exec i s = .next t ∧ exec i u = .next v ∧ t.sameCtx v (opEngine i).2
      ∧ v.status = t.status ∧ v.response = t.response

/-- Commands on different engines commute in their context effects (R55, R273). -/
def Obligations.DifferentEnginesCommute : Prop :=
  ∀ (i j : Instr) (s : State), (opEngine i).2 ≠ (opEngine j).2 →
    ∃ si sj t u, exec i s = .next si ∧ exec j s = .next sj ∧ exec j si = .next t ∧ exec i sj = .next u
      ∧ t.sameCtxs u ∧ t.response = sj.response ∧ u.response = si.response

/-- A pure command reads only its operand and writes only its result and STATUS (R75). -/
def Obligations.PureCommandsDependOnTheOperandAlone : Prop :=
  (∀ i : Instr, isPure i = true → ∃ (st : BitVec 3) (res : Bytes), st ≠ 2 ∧ ∀ s : State,
      exec i s = .next { s with status := st, response := some { status := st, res := res } })
    ∧ (∀ i : Instr, isPure i = true ↔ (encode i).cmd ∈ ([0x0C, 0x0D, 0x0E, 0x0F, 0x12, 0x13] : List Byte))
    ∧ (∀ (arg : Bytes) (n m : Nat) (s : State), exec (.tigerCompress arg n) s = exec (.tiger2Compress arg m) s)

/-- The phase of a context changes as the transition table says (R24). -/
def Obligations.PhasesFollowTheTransitionTable : Prop :=
  ∀ (i : Instr) (s t : State), exec i s = .next t →
    (t.status = 0 → t.phaseOf (opEngine i).2 = phaseAfter i (s.phaseOf (opEngine i).2)
      ∧ (needsInit (opEngine i).1 = true → s.phaseOf (opEngine i).2 ≠ .uninit)
      ∧ ((opEngine i).1 = .save → ∀ r ∈ t.response, r.res.getD 0 0 =
          (match s.phaseOf (opEngine i).2 with | .uninit => 0 | .ready => 1 | .accum => 2)))
    ∧ (t.status ≠ 0 → ∀ e, t.phaseOf e = s.phaseOf e)

/-- Repeating INIT, an empty ABSORB, SAVE, LOAD or a pure command changes nothing (20_memory.md R53, which the spec marks as derived) (R24, R75, R102, R112, R114, R220, R236, R238). -/
def Obligations.RepeatingAnIdempotentCommandChangesNothing : Prop :=
  ∀ (i : Instr) (s t : State),
    ((opEngine i).1 = .init ∨ ((opEngine i).1 = .absorb ∧ i.arg = []) ∨ (opEngine i).1 = .save
      ∨ (opEngine i).1 = .load ∨ isPure i = true) →
    exec i s = .next t → exec i t = .next t

/-- A command that completes OK returns a result of the tabulated length (R76). -/
def Obligations.ResultsHaveTheTabulatedLength : Prop :=
  ∀ (i : Instr) (s t : State), s.Inv → exec i s = .next t → t.status = 0 →
    ∃ r, t.response = some r ∧ r.res.length = resultLen i

/-- A well-formed call never raises OPERAND_LENGTH or SIZE_MISMATCH, and an ill-formed one always faults (R76, R79, R265, 90_conflicts.md C4). -/
def Obligations.WellFormedCallsRaiseNoLengthFaultAndIllFormedCallsFault : Prop :=
  ∀ (i : Instr) (s t : State), exec i s = .next t →
    (i.wellFormed = true → t.status ≠ 6 ∧ t.status ≠ 3
      ∧ ((opEngine i).1 = .finalize → s.phaseOf (opEngine i).2 ≠ .uninit → t.status = 0))
    ∧ (i.wellFormed = false → t.status ≠ 0)

/-- outlen is read only by FINALIZE (R79). -/
def Obligations.OutlenIsReadOnlyByFinalize : Prop :=
  ∀ (op : Op) (eng : Engine) (arg : Bytes) (n m : Nat) (i j : Instr) (s : State), op ≠ .finalize →
    instrOf op eng arg n = .ok i → instrOf op eng arg m = .ok j → exec i s = exec j s

/-- Every line of the assembler emits the command of its operation and engine with its operand, and the pseudo-commands expand to such lines. The outlen 0 that initOf, absorbOf and saveOf fix in the clauses of HASH, CLONE and RESET is the MODEL'S choice, log 14, and so is what asmBytes makes of a text character outside ASCII in the clause of HASH, log 13 (R74, R77, R85, 30_encoding.md R86 (the expansions; what they do is PseudoCommandsDoWhatR86Says), log 13 (the model's choice), log 14 (the model's choice)). -/
def Obligations.AssembledLinesDecodeToTheirCommand : Prop :=
  (∀ l : AsmLine, ∃ i, decode (assemble l) = .ok i
      ∧ ((∀ e img, l ≠ .load e img) → i.operandLengthOk = true)
      ∧ ((∀ e img, l ≠ .load e img) → (∀ e n, l ≠ .finalize e (some n)) → i.wellFormed = true))
    ∧ (∀ e, emits (assemble (.init e)) .init e [] ∧ emits (assemble (.save e)) .save e [])
    ∧ (∀ e (t : String), (∀ ch ∈ t.toList, ch.toNat < 128) →
        ∃ arg, emits (assemble (.absorb e (.text t))) .absorb e arg ∧ arg.map BitVec.toNat = t.toList.map Char.toNat)
    ∧ (∀ e b n, emits (assemble (.absorb e (.hex b))) .absorb e b
        ∧ emits (assemble (.absorb e (.zeros n))) .absorb e (List.replicate n 0))
    ∧ (∀ e n, ∃ i j, decode (assemble (.finalize e (some n))) = .ok i ∧ decode (assemble (.finalize e none)) = .ok j
        ∧ opEngine i = (.finalize, e) ∧ i.arg = [] ∧ i.outlen = n
        ∧ opEngine j = (.finalize, e) ∧ j.arg = []
        ∧ j.outlen = (match e with | .tiger => 24 | .tiger2 => 24 | .rg32 => 32 | .rg64 => 32))
    ∧ (∀ a b c x0 x1 x2 x3 x4 x5 x6 x7 : W64, ∀ second : Bool,
        emits (assemble (.compress second ⟨a, b, c⟩ ⟨x0, x1, x2, x3, x4, x5, x6, x7⟩)) .transform
          (if second then .tiger2 else .tiger) ([a, b, c, x0, x1, x2, x3, x4, x5, x6, x7].flatMap leStore))
    ∧ (∀ m p, emits (assemble (.round32 m p)) .transform .rg32
        ((m.mill.toList ++ m.belt.toList ++ p.toList).flatMap leStore))
    ∧ (∀ m p, emits (assemble (.round64 m p)) .transform .rg64
        ((m.mill.toList ++ m.belt.toList ++ p.toList).flatMap leStore))
    ∧ (∀ m, emits (assemble (.blank32 m)) .blank .rg32 ((m.mill.toList ++ m.belt.toList).flatMap leStore))
    ∧ (∀ m, emits (assemble (.blank64 m)) .blank .rg64 ((m.mill.toList ++ m.belt.toList).flatMap leStore))
    ∧ (∀ e img, emits (assemble (.load e img)) .load e img)
    ∧ (∀ (e : Engine) (d : AsmBytes),
        (asmHash e d).map (fun l => decode (assemble l))
          = [.ok (initOf e), .ok (absorbOf e (asmBytes d)), .ok (finalizeOf e)])
    ∧ (∀ e : Engine, (asmClone e).map (fun l => decode (assemble l)) = [.ok (saveOf e)])
    ∧ ∀ e : Engine, (asmReset e).map (fun l => decode (assemble l)) = [.ok (initOf e)]

/-- The result of HASH is that of its FINALIZE, a LOAD of the image CLONE returns resumes from the clone, and RESET initialises the context (R86, 10_state.md R29 (the invariant of a cloned context)). -/
def Obligations.PseudoCommandsDoWhatR86Says : Prop :=
  (∀ (e : Engine) (d : AsmBytes) (s : State),
      asmHash e d = [.init e, .absorb e d, .finalize e none]
      ∧ ∃ i j k u t, (asmHash e d).map (fun l => decode (assemble l)) = [.ok i, .ok j, .ok k]
        ∧ execAll [i, j] s = .next u ∧ opEngine k = (.finalize, e) ∧ exec k u = .next t ∧ execAll [i, j, k] s = .next t)
    ∧ (∀ (e : Engine) (s : State), s.Inv → s.phaseOf e ≠ .uninit →
      asmClone e = [.save e]
      ∧ ∃ i img, (asmClone e).map (fun l => decode (assemble l)) = [.ok i] ∧ exec i s = .next (s.answered img)
        ∧ ∀ u, ∃ j t, decode (assemble (.load e img)) = .ok j ∧ exec j u = .next t ∧ t.status = 0 ∧ s.sameCtx t e)
    ∧ ∀ (e : Engine) (s : State), asmReset e = [.init e]
      ∧ ∃ i t, (asmReset e).map (fun l => decode (assemble l)) = [.ok i] ∧ exec i s = .next t ∧ t.status = 0
        ∧ t.phaseOf e = .ready
end

