-- ==== Sys2Proof/Laws/State.lean ====
section
/-! SUPPORT. What each update of the state leaves in each field: one lemma per field per update, so that no proof unfolds
a record update. -/

namespace Sys2Proof.Machine

variable (s : State)

@[simp] theorem State.setTiger_tiger (C : TigerCtx) : (s.setTiger C).tiger = C := rfl
@[simp] theorem State.setTiger_tiger2 (C : TigerCtx) : (s.setTiger C).tiger2 = s.tiger2 := rfl
@[simp] theorem State.setTiger_rg32 (C : TigerCtx) : (s.setTiger C).rg32 = s.rg32 := rfl
@[simp] theorem State.setTiger_rg64 (C : TigerCtx) : (s.setTiger C).rg64 = s.rg64 := rfl
@[simp] theorem State.setTiger_status (C : TigerCtx) : (s.setTiger C).status = s.status := rfl
@[simp] theorem State.setTiger_pending (C : TigerCtx) : (s.setTiger C).pending = s.pending := rfl
@[simp] theorem State.setTiger_index (C : TigerCtx) : (s.setTiger C).index = s.index := rfl
@[simp] theorem State.setTiger_response (C : TigerCtx) : (s.setTiger C).response = s.response := rfl

@[simp] theorem State.setTiger2_tiger (C : TigerCtx) : (s.setTiger2 C).tiger = s.tiger := rfl
@[simp] theorem State.setTiger2_tiger2 (C : TigerCtx) : (s.setTiger2 C).tiger2 = C := rfl
@[simp] theorem State.setTiger2_rg32 (C : TigerCtx) : (s.setTiger2 C).rg32 = s.rg32 := rfl
@[simp] theorem State.setTiger2_rg64 (C : TigerCtx) : (s.setTiger2 C).rg64 = s.rg64 := rfl
@[simp] theorem State.setTiger2_status (C : TigerCtx) : (s.setTiger2 C).status = s.status := rfl
@[simp] theorem State.setTiger2_pending (C : TigerCtx) : (s.setTiger2 C).pending = s.pending := rfl
@[simp] theorem State.setTiger2_index (C : TigerCtx) : (s.setTiger2 C).index = s.index := rfl
@[simp] theorem State.setTiger2_response (C : TigerCtx) : (s.setTiger2 C).response = s.response := rfl

@[simp] theorem State.setRg32_tiger (C : RGCtx 32) : (s.setRg32 C).tiger = s.tiger := rfl
@[simp] theorem State.setRg32_tiger2 (C : RGCtx 32) : (s.setRg32 C).tiger2 = s.tiger2 := rfl
@[simp] theorem State.setRg32_rg32 (C : RGCtx 32) : (s.setRg32 C).rg32 = C := rfl
@[simp] theorem State.setRg32_rg64 (C : RGCtx 32) : (s.setRg32 C).rg64 = s.rg64 := rfl
@[simp] theorem State.setRg32_status (C : RGCtx 32) : (s.setRg32 C).status = s.status := rfl
@[simp] theorem State.setRg32_pending (C : RGCtx 32) : (s.setRg32 C).pending = s.pending := rfl
@[simp] theorem State.setRg32_index (C : RGCtx 32) : (s.setRg32 C).index = s.index := rfl
@[simp] theorem State.setRg32_response (C : RGCtx 32) : (s.setRg32 C).response = s.response := rfl

@[simp] theorem State.setRg64_tiger (C : RGCtx 64) : (s.setRg64 C).tiger = s.tiger := rfl
@[simp] theorem State.setRg64_tiger2 (C : RGCtx 64) : (s.setRg64 C).tiger2 = s.tiger2 := rfl
@[simp] theorem State.setRg64_rg32 (C : RGCtx 64) : (s.setRg64 C).rg32 = s.rg32 := rfl
@[simp] theorem State.setRg64_rg64 (C : RGCtx 64) : (s.setRg64 C).rg64 = C := rfl
@[simp] theorem State.setRg64_status (C : RGCtx 64) : (s.setRg64 C).status = s.status := rfl
@[simp] theorem State.setRg64_pending (C : RGCtx 64) : (s.setRg64 C).pending = s.pending := rfl
@[simp] theorem State.setRg64_index (C : RGCtx 64) : (s.setRg64 C).index = s.index := rfl
@[simp] theorem State.setRg64_response (C : RGCtx 64) : (s.setRg64 C).response = s.response := rfl

@[simp] theorem State.take_tiger (rest : List Command) : (s.take rest).tiger = s.tiger := rfl
@[simp] theorem State.take_tiger2 (rest : List Command) : (s.take rest).tiger2 = s.tiger2 := rfl
@[simp] theorem State.take_rg32 (rest : List Command) : (s.take rest).rg32 = s.rg32 := rfl
@[simp] theorem State.take_rg64 (rest : List Command) : (s.take rest).rg64 = s.rg64 := rfl
@[simp] theorem State.take_status (rest : List Command) : (s.take rest).status = s.status := rfl
@[simp] theorem State.take_pending (rest : List Command) : (s.take rest).pending = rest := rfl
@[simp] theorem State.take_index (rest : List Command) : (s.take rest).index = s.index + 1 := rfl
@[simp] theorem State.take_response (rest : List Command) : (s.take rest).response = s.response := rfl

@[simp] theorem State.respond_tiger (st : Status) (res : Bytes) : (s.respond st res).tiger = s.tiger := rfl
@[simp] theorem State.respond_tiger2 (st : Status) (res : Bytes) : (s.respond st res).tiger2 = s.tiger2 := rfl
@[simp] theorem State.respond_rg32 (st : Status) (res : Bytes) : (s.respond st res).rg32 = s.rg32 := rfl
@[simp] theorem State.respond_rg64 (st : Status) (res : Bytes) : (s.respond st res).rg64 = s.rg64 := rfl
@[simp] theorem State.respond_status (st : Status) (res : Bytes) : (s.respond st res).status = statusCode st := rfl
@[simp] theorem State.respond_pending (st : Status) (res : Bytes) : (s.respond st res).pending = s.pending := rfl
@[simp] theorem State.respond_index (st : Status) (res : Bytes) : (s.respond st res).index = s.index := rfl
@[simp] theorem State.respond_response (st : Status) (res : Bytes) : (s.respond st res).response = some { status := statusCode st, res := res } := rfl

@[simp] theorem State.complete_tiger (res : Bytes) : (s.complete res).tiger = s.tiger := rfl
@[simp] theorem State.complete_tiger2 (res : Bytes) : (s.complete res).tiger2 = s.tiger2 := rfl
@[simp] theorem State.complete_rg32 (res : Bytes) : (s.complete res).rg32 = s.rg32 := rfl
@[simp] theorem State.complete_rg64 (res : Bytes) : (s.complete res).rg64 = s.rg64 := rfl
@[simp] theorem State.complete_status (res : Bytes) : (s.complete res).status = 0 := rfl
@[simp] theorem State.complete_pending (res : Bytes) : (s.complete res).pending = s.pending := rfl
@[simp] theorem State.complete_index (res : Bytes) : (s.complete res).index = s.index := rfl
@[simp] theorem State.complete_response (res : Bytes) : (s.complete res).response = some { status := 0, res := res } := rfl

@[simp] theorem State.raise_tiger (st : Status) : (s.raise st).tiger = s.tiger := rfl
@[simp] theorem State.raise_tiger2 (st : Status) : (s.raise st).tiger2 = s.tiger2 := rfl
@[simp] theorem State.raise_rg32 (st : Status) : (s.raise st).rg32 = s.rg32 := rfl
@[simp] theorem State.raise_rg64 (st : Status) : (s.raise st).rg64 = s.rg64 := rfl
@[simp] theorem State.raise_status (st : Status) : (s.raise st).status = statusCode st := rfl
@[simp] theorem State.raise_pending (st : Status) : (s.raise st).pending = s.pending := rfl
@[simp] theorem State.raise_index (st : Status) : (s.raise st).index = s.index := rfl
@[simp] theorem State.raise_response (st : Status) : (s.raise st).response = some { status := statusCode st, res := [] } := rfl

/-- Writing a context twice keeps the second. -/
@[simp] theorem State.setTiger_setTiger (C D : TigerCtx) : (s.setTiger C).setTiger D = s.setTiger D := rfl
@[simp] theorem State.setTiger2_setTiger2 (C D : TigerCtx) : (s.setTiger2 C).setTiger2 D = s.setTiger2 D := rfl
@[simp] theorem State.setRg32_setRg32 (C D : RGCtx 32) : (s.setRg32 C).setRg32 D = s.setRg32 D := rfl
@[simp] theorem State.setRg64_setRg64 (C D : RGCtx 64) : (s.setRg64 C).setRg64 D = s.setRg64 D := rfl

/-- A later response replaces an earlier one. -/
@[simp] theorem State.respond_respond (st st' : Status) (r r' : Bytes) :
    (s.respond st r).respond st' r' = s.respond st' r' := rfl

end Sys2Proof.Machine
end

