-- ==== Sys2Proof/Laws/Ops.lean ====
section
/-! SUPPORT. One lemma for each shared operation of Machine/Ops.lean and Machine/Flags.lean: lengths, the little-endian
round trip, how a command ends and what the checks decide. -/

namespace Sys2Proof.Machine

/-! ## Lengths -/

@[simp] theorem length_zeros (n : Nat) : (zeros n).length = n := by simp [zeros]

@[simp] theorem length_leStore {n : Nat} (x : BitVec n) : (leStore x).length = n / 8 := by simp [leStore]

@[simp] theorem length_slice (s : Bytes) (i j : Nat) : (slice s i j).length = min (j - i) (s.length - i) := by
  simp [slice]

@[simp] theorem length_bytesOf {n : Nat} (l : List (BitVec n)) : (bytesOf l).length = n / 8 * l.length := by
  induction l with
  | nil => simp [bytesOf]
  | cons x l ih =>
    have : (bytesOf (x :: l)).length = n / 8 + (bytesOf l).length := by simp [bytesOf]
    rw [this, ih, List.length_cons]; ring

/-! ## Little-endian words -/

theorem leNat_append (s t : Bytes) : leNat (s ++ t) = leNat s + 256 ^ s.length * leNat t := by
  induction s with
  | nil => simp [leNat]
  | cons x s ih => simp only [List.cons_append, leNat, ih, List.length_cons, pow_succ]; ring

/-- Byte k of a word is digit k of its number in base 256. -/
theorem byteAt_toNat {n : Nat} (k : Nat) (x : BitVec n) : (byteAt k x).toNat = x.toNat / 256 ^ k % 256 := by
  simp [byteAt, BitVec.extractLsb'_toNat, Nat.shiftRight_eq_div_pow, pow_mul]

theorem leNat_bytes {n : Nat} (x : BitVec n) (m : Nat) :
    leNat ((List.range m).map fun k => byteAt k x) = x.toNat % 256 ^ m := by
  induction m with
  | zero => simp [leNat, Nat.mod_one]
  | succ m ih =>
    rw [List.range_succ, List.map_append, leNat_append, ih]
    simp only [List.map_cons, List.map_nil, leNat, byteAt_toNat, List.length_map, List.length_range]
    rw [pow_succ, Nat.mod_mul]; ring

/-- The bytes of a word of whole bytes stand for its number. -/
theorem leNat_leStore {n : Nat} (h : 8 ∣ n) (x : BitVec n) : leNat (leStore x) = x.toNat := by
  obtain ⟨m, rfl⟩ := h
  rw [leStore, leNat_bytes, Nat.mul_div_cancel_left m (by norm_num)]
  have := x.isLt
  rw [pow_mul] at this
  exact Nat.mod_eq_of_lt (by simpa using this)

/-- `le_load_n(le_store_n(x) ++ t, 0) = x` (R14). -/
theorem leLoad_leStore_append {n : Nat} (h : 8 ∣ n) (x : BitVec n) (t : Bytes) : leLoad n (leStore x ++ t) 0 = x := by
  have e : slice (leStore x ++ t) 0 (0 + n / 8) = leStore x := by simp [slice]
  rw [leLoad, e, leNat_leStore h, BitVec.ofNat_toNat, BitVec.setWidth_eq]

/-- A load past a prefix reads from what follows it. -/
theorem leLoad_append_right (n : Nat) (s t : Bytes) (o : Nat) : leLoad n (s ++ t) (s.length + o) = leLoad n t o := by
  simp only [leLoad, slice, List.drop_length_add_append]
  congr 3; omega

/-- A load that ends within a prefix reads from the prefix. -/
theorem leLoad_append_left (n : Nat) (s t : Bytes) (o : Nat) (h : o + n / 8 ≤ s.length) :
    leLoad n (s ++ t) o = leLoad n s o := by
  have : slice (s ++ t) o (o + n / 8) = slice s o (o + n / 8) := by
    simp only [slice]
    rw [List.drop_append_of_le_length (by omega), List.take_append_of_le_length (by simp; omega)]
  rw [leLoad, leLoad, this]

/-- The load of a word that stands between a prefix of length `o` and a rest. -/
theorem leLoad_at {n : Nat} (hn : 8 ∣ n) (s t : Bytes) (x : BitVec n) (o : Nat) (h : s.length = o) :
    leLoad n (s ++ (leStore x ++ t)) o = x := by
  have := leLoad_append_right n s (leStore x ++ t) 0
  rw [Nat.add_zero, h] at this
  rw [this, leLoad_leStore_append hn]

/-- Word `i` of the bytes of a word list. -/
theorem leLoad_bytesOf {n : Nat} (hn : 8 ∣ n) (l : List (BitVec n)) (t : Bytes) (i : Nat) (h : i < l.length) :
    leLoad n (bytesOf l ++ t) (n / 8 * i) = l[i] := by
  induction l generalizing i with
  | nil => simp at h
  | cons x l ih =>
    have e : bytesOf (x :: l) ++ t = leStore x ++ (bytesOf l ++ t) := by simp [bytesOf, List.append_assoc]
    rw [e]
    cases i with
    | zero => exact leLoad_leStore_append hn x _
    | succ i =>
      have := leLoad_append_right n (leStore x) (bytesOf l ++ t) (n / 8 * i)
      rw [length_leStore] at this
      rw [show n / 8 * (i + 1) = n / 8 + n / 8 * i by ring, this, ih i (by simpa using h)]
      rfl

/-! ## Word arrays -/

/-- Within the array the modular index is the index (R17). -/
theorem wordAt_of_lt {W n : Nat} (v : Vector (BitVec W) (n + 1)) (k : Nat) (h : k < n + 1) : wordAt v k = v[k] := by
  simp only [wordAt, Nat.mod_eq_of_lt h]

@[simp] theorem wordAt_ofFn {W n : Nat} (f : Fin (n + 1) → BitVec W) (k : Nat) :
    wordAt (Vector.ofFn f) k = f ⟨k % (n + 1), Nat.mod_lt k (Nat.succ_pos n)⟩ := by
  simp [wordAt]

/-! ## The checks (R270) -/

@[simp] theorem requireLength_eq_ok {α : Type} {n : Nat} {arg : Bytes} {b : Except Status α} {x : α} :
    requireLength n arg b = .ok x ↔ arg.length = n ∧ b = .ok x := by
  unfold requireLength; split <;> simp_all

@[simp] theorem requireInit_eq_ok {α : Type} {ph : Phase} {b : Except Status α} {x : α} :
    requireInit ph b = .ok x ↔ ph ≠ .uninit ∧ b = .ok x := by
  unfold requireInit; split <;> simp_all

@[simp] theorem requireOutlen_eq_ok {α : Type} {n outlen : Nat} {b : Except Status α} {x : α} :
    requireOutlen n outlen b = .ok x ↔ outlen = n ∧ b = .ok x := by
  unfold requireOutlen; split <;> simp_all

@[simp] theorem requireWithin_eq_ok {α : Type} {limit total n : Nat} {b : Except Status α} {x : α} :
    requireWithin limit total n b = .ok x ↔ total + n ≤ limit ∧ b = .ok x := by
  unfold requireWithin; split <;> simp_all

@[simp] theorem requireImage_eq_ok {α : Type} {v : Bool} {b : Except Status α} {x : α} :
    requireImage v b = .ok x ↔ v = true ∧ b = .ok x := by
  unfold requireImage; split <;> simp_all

theorem ok_eq_ok {α : Type} {x y : α} : (Except.ok x : Except Status α) = .ok y ↔ y = x := by
  rw [Except.ok.injEq, eq_comm]

/-! ## How a command ends (R57, R263) -/

/-- All that `settle` can do: write the body's context and complete, or raise the body's fault and write nothing. -/
theorem settle_cases {κ : Type} {s t : State} {put : κ → State} {r : Except Status (κ × Bytes)}
    (h : s.settle put r = .next t) :
    (∃ C res, r = .ok (C, res) ∧ t = (put C).complete res) ∨ (∃ st, r = .error st ∧ t = s.raise st) := by
  unfold State.settle at h
  split at h
  · exact .inl ⟨_, _, rfl, by injection h with h; exact h.symm⟩
  · exact .inr ⟨_, rfl, by injection h with h; exact h.symm⟩

/-- All that `answer` can do: complete with the body's result, or raise its fault. -/
theorem answer_cases {s t : State} {r : Except Status Bytes} (h : s.answer r = .next t) :
    (∃ res, r = .ok res ∧ t = s.complete res) ∨ (∃ st, r = .error st ∧ t = s.raise st) := by
  unfold State.answer at h
  split at h
  · exact .inl ⟨_, rfl, by injection h with h; exact h.symm⟩
  · exact .inr ⟨_, rfl, by injection h with h; exact h.symm⟩

@[simp] theorem settle_ok {κ : Type} (s : State) (put : κ → State) (C : κ) (res : Bytes) :
    s.settle put (.ok (C, res)) = .next ((put C).complete res) := rfl

@[simp] theorem settle_error {κ : Type} (s : State) (put : κ → State) (st : Status) :
    s.settle put (.error st) = .next (s.raise st) := rfl

@[simp] theorem answer_ok (s : State) (res : Bytes) : s.answer (.ok res) = .next (s.complete res) := rfl

@[simp] theorem answer_error (s : State) (st : Status) : s.answer (.error st) = .next (s.raise st) := rfl

/-- Only OK has code 0 (R260). -/
@[simp] theorem statusCode_eq_zero (st : Status) : statusCode st = 0 ↔ st = .ok := by cases st <;> decide

end Sys2Proof.Machine
end

