-- ==== Sys2Proof/Laws/PerInstr.lean ====
section
/-! SUPPORT. Statements for every instruction, one lemma per constructor. `CodeTable`: a command's code is the one the
map of 30_encoding.md R74 gives it, and its encoding carries its operand and output length unchanged. -/

namespace Sys2Proof.Laws

/-- The code of a pair that is not BLANK on a Tiger engine decodes to the pair (R73, R84). -/
theorem decodeCode_encodeCode (op : Op) (eng : Engine) (h : op = .blank → eng ≠ .tiger ∧ eng ≠ .tiger2) :
    decodeCode (encodeCode op eng) = .ok (op, eng) := by
  revert h
  cases op <;> cases eng <;> decide

/-- Decoding the encoding of a command comes down to the command its operation and engine name. -/
theorem decode_encode_of (i : Instr) (op : Op) (eng : Engine) (ho : opEngine i = (op, eng))
    (h : op = .blank → eng ≠ .tiger ∧ eng ≠ .tiger2) (hi : instrOf op eng i.arg i.outlen = .ok i) :
    decode (encode i) = .ok i := by
  simp only [decode, encode, ho, decodeCode_encodeCode op eng h, hi]

namespace CodeTable

/-- The code of each command, as the table of R74 prints it. -/
def code : Instr → Byte
  | .tigerInit _ _ => 0x00
  | .tiger2Init _ _ => 0x01
  | .rg32Init _ _ => 0x02
  | .rg64Init _ _ => 0x03
  | .tigerAbsorb _ _ => 0x04
  | .tiger2Absorb _ _ => 0x05
  | .rg32Absorb _ _ => 0x06
  | .rg64Absorb _ _ => 0x07
  | .tigerFinalize _ _ => 0x08
  | .tiger2Finalize _ _ => 0x09
  | .rg32Finalize _ _ => 0x0A
  | .rg64Finalize _ _ => 0x0B
  | .tigerCompress _ _ => 0x0C
  | .tiger2Compress _ _ => 0x0D
  | .rg32Round _ _ => 0x0E
  | .rg64Round _ _ => 0x0F
  | .rg32Blank _ _ => 0x12
  | .rg64Blank _ _ => 0x13
  | .tigerSave _ _ => 0x14
  | .tiger2Save _ _ => 0x15
  | .rg32Save _ _ => 0x16
  | .rg64Save _ _ => 0x17
  | .tigerLoad _ _ => 0x18
  | .tiger2Load _ _ => 0x19
  | .rg32Load _ _ => 0x1A
  | .rg64Load _ _ => 0x1B

/-- The encoding of a command is its code of R74 with its operand and output length, and decodes to it. -/
def Statement (i : Instr) : Prop :=
  encode i = { cmd := code i, arg := i.arg, outlen := i.outlen } ∧ decode (encode i) = .ok i

/-- A command's statement from its operation, engine and code. -/
theorem of_code (i : Instr) (op : Op) (eng : Engine) (c : Byte) (ho : opEngine i = (op, eng)) (hc : code i = c)
    (he : encodeCode op eng = c) (h : op = .blank → eng ≠ .tiger ∧ eng ≠ .tiger2)
    (hi : instrOf op eng i.arg i.outlen = .ok i) : Statement i := by
  refine ⟨?_, decode_encode_of i op eng ho h hi⟩
  simp only [encode, ho, he, hc]

variable (arg : Bytes) (outlen : Nat)

theorem tigerInit : Statement (.tigerInit arg outlen) :=
  of_code _ .init .tiger 0x00 rfl rfl (by decide) (by decide) rfl
theorem tiger2Init : Statement (.tiger2Init arg outlen) :=
  of_code _ .init .tiger2 0x01 rfl rfl (by decide) (by decide) rfl
theorem rg32Init : Statement (.rg32Init arg outlen) :=
  of_code _ .init .rg32 0x02 rfl rfl (by decide) (by decide) rfl
theorem rg64Init : Statement (.rg64Init arg outlen) :=
  of_code _ .init .rg64 0x03 rfl rfl (by decide) (by decide) rfl
theorem tigerAbsorb : Statement (.tigerAbsorb arg outlen) :=
  of_code _ .absorb .tiger 0x04 rfl rfl (by decide) (by decide) rfl
theorem tiger2Absorb : Statement (.tiger2Absorb arg outlen) :=
  of_code _ .absorb .tiger2 0x05 rfl rfl (by decide) (by decide) rfl
theorem rg32Absorb : Statement (.rg32Absorb arg outlen) :=
  of_code _ .absorb .rg32 0x06 rfl rfl (by decide) (by decide) rfl
theorem rg64Absorb : Statement (.rg64Absorb arg outlen) :=
  of_code _ .absorb .rg64 0x07 rfl rfl (by decide) (by decide) rfl
theorem tigerFinalize : Statement (.tigerFinalize arg outlen) :=
  of_code _ .finalize .tiger 0x08 rfl rfl (by decide) (by decide) rfl
theorem tiger2Finalize : Statement (.tiger2Finalize arg outlen) :=
  of_code _ .finalize .tiger2 0x09 rfl rfl (by decide) (by decide) rfl
theorem rg32Finalize : Statement (.rg32Finalize arg outlen) :=
  of_code _ .finalize .rg32 0x0A rfl rfl (by decide) (by decide) rfl
theorem rg64Finalize : Statement (.rg64Finalize arg outlen) :=
  of_code _ .finalize .rg64 0x0B rfl rfl (by decide) (by decide) rfl
theorem tigerCompress : Statement (.tigerCompress arg outlen) :=
  of_code _ .transform .tiger 0x0C rfl rfl (by decide) (by decide) rfl
theorem tiger2Compress : Statement (.tiger2Compress arg outlen) :=
  of_code _ .transform .tiger2 0x0D rfl rfl (by decide) (by decide) rfl
theorem rg32Round : Statement (.rg32Round arg outlen) :=
  of_code _ .transform .rg32 0x0E rfl rfl (by decide) (by decide) rfl
theorem rg64Round : Statement (.rg64Round arg outlen) :=
  of_code _ .transform .rg64 0x0F rfl rfl (by decide) (by decide) rfl
theorem rg32Blank : Statement (.rg32Blank arg outlen) :=
  of_code _ .blank .rg32 0x12 rfl rfl (by decide) (by decide) rfl
theorem rg64Blank : Statement (.rg64Blank arg outlen) :=
  of_code _ .blank .rg64 0x13 rfl rfl (by decide) (by decide) rfl
theorem tigerSave : Statement (.tigerSave arg outlen) :=
  of_code _ .save .tiger 0x14 rfl rfl (by decide) (by decide) rfl
theorem tiger2Save : Statement (.tiger2Save arg outlen) :=
  of_code _ .save .tiger2 0x15 rfl rfl (by decide) (by decide) rfl
theorem rg32Save : Statement (.rg32Save arg outlen) :=
  of_code _ .save .rg32 0x16 rfl rfl (by decide) (by decide) rfl
theorem rg64Save : Statement (.rg64Save arg outlen) :=
  of_code _ .save .rg64 0x17 rfl rfl (by decide) (by decide) rfl
theorem tigerLoad : Statement (.tigerLoad arg outlen) :=
  of_code _ .load .tiger 0x18 rfl rfl (by decide) (by decide) rfl
theorem tiger2Load : Statement (.tiger2Load arg outlen) :=
  of_code _ .load .tiger2 0x19 rfl rfl (by decide) (by decide) rfl
theorem rg32Load : Statement (.rg32Load arg outlen) :=
  of_code _ .load .rg32 0x1A rfl rfl (by decide) (by decide) rfl
theorem rg64Load : Statement (.rg64Load arg outlen) :=
  of_code _ .load .rg64 0x1B rfl rfl (by decide) (by decide) rfl

end CodeTable

end Sys2Proof.Laws
end

