-- ==== Sys2Proof/Laws/RadioGatun.lean ====
section
/-! SUPPORT. The RadioGatun engines' bodies: when each answers OK and with what, and the bound their loop keeps. -/

namespace Sys2Proof.Machine

@[simp] theorem rgWordBytes_32 : rgWordBytes 32 = 4 := rfl
@[simp] theorem rgWordBytes_64 : rgWordBytes 64 = 8 := rfl
@[simp] theorem rgCap_32 : rgCap 32 = 12 := rfl
@[simp] theorem rgCap_64 : rgCap 64 = 24 := rfl
@[simp] theorem rgOutRounds_32 : rgOutRounds 32 = 4 := rfl
@[simp] theorem rgOutRounds_64 : rgOutRounds 64 = 2 := rfl
@[simp] theorem rgImageBytes_32 : rgImageBytes 32 = 252 := rfl
@[simp] theorem rgImageBytes_64 : rgImageBytes 64 = 496 := rfl

@[simp] theorem length_millBeltBytes {W : Nat} (m : MillBelt W) : (millBeltBytes m).length = 58 * rgWordBytes W := by
  simp [millBeltBytes, rgWordBytes]; omega

/-- `n` words read back from their bytes. -/
theorem wordsAt_bytesOf {W n : Nat} (hW : 8 ∣ W) (s t : Bytes) (v : Vector (BitVec W) n) (o : Nat)
    (hs : s.length = o) : wordsAt W n (s ++ (bytesOf v.toList ++ t)) o = v := by
  apply Vector.ext
  intro i hi
  simp only [wordsAt, Vector.getElem_ofFn, rgWordBytes]
  subst hs
  rw [leLoad_append_right, leLoad_bytesOf hW _ _ _ (by simpa using hi)]
  simp

/-- A mill and belt read back from their bytes. -/
theorem millBeltAt_millBeltBytes {W : Nat} (hW : 8 ∣ W) (s t : Bytes) (m : MillBelt W) (o : Nat)
    (hs : s.length = o) : millBeltAt W (s ++ (millBeltBytes m ++ t)) o = m := by
  have hm := wordsAt_bytesOf hW s (bytesOf m.belt.toList ++ t) m.mill o hs
  have hb := wordsAt_bytesOf hW (s ++ bytesOf m.mill.toList) t m.belt (o + rgWordBytes W * 19)
    (by simp [hs, rgWordBytes])
  have e1 : s ++ (millBeltBytes m ++ t) = s ++ (bytesOf m.mill.toList ++ (bytesOf m.belt.toList ++ t)) := by
    simp only [millBeltBytes, List.append_assoc]
  have e2 : s ++ (millBeltBytes m ++ t) = s ++ bytesOf m.mill.toList ++ (bytesOf m.belt.toList ++ t) := by
    simp only [millBeltBytes, List.append_assoc]
  unfold millBeltAt
  rw [e1, hm, ← e1, e2, hb]

/-! ## The loop of ABSORB -/

@[simp] theorem rgTakeBytes_nil {W : Nat} (m : MillBelt W × Bytes) : rgTakeBytes m [] = m := rfl

theorem rgTakeBytes_append {W : Nat} (m : MillBelt W × Bytes) (s t : Bytes) :
    rgTakeBytes m (s ++ t) = rgTakeBytes (rgTakeBytes m s) t := List.foldl_append

theorem rgTakeByte_length {W : Nat} (m : MillBelt W × Bytes) (x : Byte) (h : m.2.length < rgCap W) :
    (rgTakeByte m x).2.length = (m.2.length + 1) % rgCap W := by
  unfold rgTakeByte
  split
  · next e => simp [e]
  · next e => simp; exact (Nat.mod_eq_of_lt (by omega)).symm

/-- The loop leaves `fill' = (fill + n) mod cap` (R222). -/
theorem rgTakeBytes_length {W : Nat} (m : MillBelt W × Bytes) (s : Bytes) (h : m.2.length < rgCap W) :
    (rgTakeBytes m s).2.length = (m.2.length + s.length) % rgCap W := by
  induction s generalizing m with
  | nil => simp; exact (Nat.mod_eq_of_lt h).symm
  | cons x s ih =>
    have hx := rgTakeByte_length m x h
    have : rgTakeBytes m (x :: s) = rgTakeBytes (rgTakeByte m x) s := rfl
    rw [this, ih _ (by rw [hx]; exact Nat.mod_lt _ (by omega)), hx, List.length_cons, Nat.mod_add_mod]
    congr 1; omega

/-! ## The bodies -/

variable {W : Nat} {C D : RGCtx W} {e : Engine} {arg res : Bytes} {outlen : Nat}

theorem rgInit_eq_ok : rgInit W arg = .ok (D, res) ↔ arg = [] ∧ D = rgInitCtx W ∧ res = [] := by
  simp [rgInit, ok_eq_ok, -Except.ok.injEq]

theorem rgAbsorb_eq_ok :
    rgAbsorb C arg = .ok (D, res) ↔ C.phase ≠ .uninit ∧ D = rgAbsorbed C arg ∧ res = [] := by
  simp [rgAbsorb, ok_eq_ok, -Except.ok.injEq]

theorem rgFinalize_eq_ok :
    rgFinalize e C arg outlen = .ok (D, res) ↔
      arg = [] ∧ C.phase ≠ .uninit ∧ outlen = 32 ∧ D = rgInitCtx W
        ∧ res = rgOutput (roundIn C.millBelt (wordsAt W 3 (rgLastBlock e C) 0)) := by
  simp [rgFinalize, ok_eq_ok, -Except.ok.injEq]

theorem rgSave_eq_ok :
    rgSave e C arg = .ok (D, res) ↔ arg = [] ∧ C.phase ≠ .uninit ∧ D = C ∧ res = rgImage e C := by
  simp [rgSave, ok_eq_ok, -Except.ok.injEq]

theorem rgLoad_eq_ok :
    rgLoad W e arg = .ok (D, res) ↔
      arg.length = rgImageBytes W ∧ rgImageValid W e arg = true ∧ D = rgImageCtx W arg ∧ res = [] := by
  simp [rgLoad, ok_eq_ok, -Except.ok.injEq]

theorem rgRoundCmd_eq_ok :
    rgRoundCmd W arg = .ok res ↔
      arg.length = 61 * rgWordBytes W
        ∧ res = millBeltBytes (roundIn (millBeltAt W arg 0) (wordsAt W 3 arg (rgWordBytes W * 58))) := by
  simp [rgRoundCmd, ok_eq_ok, -Except.ok.injEq]

theorem rgBlankCmd_eq_ok :
    rgBlankCmd W arg = .ok res ↔
      arg.length = 58 * rgWordBytes W ∧ res = millBeltBytes (rgRound (millBeltAt W arg 0)) := by
  simp [rgBlankCmd, ok_eq_ok, -Except.ok.injEq]

end Sys2Proof.Machine
end

