-- ==== Sys2Proof/Laws/Tiger.lean ====
section
/-! SUPPORT. The Tiger engine's bodies: when each answers OK and with what, and the bound its loop keeps. -/

namespace Sys2Proof.Machine

@[simp] theorem length_chainBytes (h : Chain) : (chainBytes h).length = 24 := by simp [chainBytes]

/-- A chaining value read back from its bytes. -/
theorem chainAt_chainBytes (s t : Bytes) (h : Chain) (o : Nat) (hs : s.length = o) :
    chainAt (s ++ (chainBytes h ++ t)) o = h := by
  have d : 8 ∣ 64 := by norm_num
  unfold chainAt chainBytes
  congr 1
  · simpa [List.append_assoc] using leLoad_at d s (leStore h.b ++ (leStore h.c ++ t)) h.a o hs
  · simpa [List.append_assoc] using leLoad_at d (s ++ leStore h.a) (leStore h.c ++ t) h.b (o + 8) (by simp [hs])
  · simpa [List.append_assoc] using leLoad_at d (s ++ leStore h.a ++ leStore h.b) t h.c (o + 16) (by simp [hs])

/-! ## The loop of ABSORB -/

@[simp] theorem tigerTakeBytes_nil (S : Sbox) (m : Chain × Bytes) : tigerTakeBytes S m [] = m := rfl

theorem tigerTakeBytes_append (S : Sbox) (m : Chain × Bytes) (s t : Bytes) :
    tigerTakeBytes S m (s ++ t) = tigerTakeBytes S (tigerTakeBytes S m s) t := List.foldl_append

theorem tigerTakeByte_length (S : Sbox) (m : Chain × Bytes) (x : Byte) (h : m.2.length < 64) :
    (tigerTakeByte S m x).2.length = (m.2.length + 1) % 64 := by
  unfold tigerTakeByte
  split <;> simp <;> omega

/-- The loop leaves `fill' = (fill + n) mod 64` (R104). -/
theorem tigerTakeBytes_length (S : Sbox) (m : Chain × Bytes) (s : Bytes) (h : m.2.length < 64) :
    (tigerTakeBytes S m s).2.length = (m.2.length + s.length) % 64 := by
  induction s generalizing m with
  | nil => simp; omega
  | cons x s ih =>
    have hx := tigerTakeByte_length S m x h
    have : tigerTakeBytes S m (x :: s) = tigerTakeBytes S (tigerTakeByte S m x) s := rfl
    rw [this, ih _ (by rw [hx]; exact Nat.mod_lt _ (by norm_num)), hx, List.length_cons]
    omega

/-! ## The bodies -/

theorem tigerInit_eq_ok {arg : Bytes} {C : TigerCtx} {res : Bytes} :
    tigerInit arg = .ok (C, res) ↔ arg = [] ∧ C = tigerInitCtx ∧ res = [] := by
  simp [tigerInit, ok_eq_ok, -Except.ok.injEq]

theorem tigerAbsorb_eq_ok {S : Sbox} {limit : Nat} {C D : TigerCtx} {arg res : Bytes} :
    tigerAbsorb S limit C arg = .ok (D, res) ↔
      C.phase ≠ .uninit ∧ C.totalLength.toNat + arg.length ≤ limit ∧ D = tigerAbsorbed S C arg ∧ res = [] := by
  simp [tigerAbsorb, ok_eq_ok, -Except.ok.injEq]

theorem tigerFinalize_eq_ok {S : Sbox} {e : Engine} {C D : TigerCtx} {arg res : Bytes} {outlen : Nat} :
    tigerFinalize S e C arg outlen = .ok (D, res) ↔
      arg = [] ∧ C.phase ≠ .uninit ∧ outlen = 24 ∧ D = tigerInitCtx ∧ res = chainBytes (tigerFinalChain S e C) := by
  simp [tigerFinalize, ok_eq_ok, -Except.ok.injEq]

theorem tigerSave_eq_ok {e : Engine} {C D : TigerCtx} {arg res : Bytes} :
    tigerSave e C arg = .ok (D, res) ↔ arg = [] ∧ C.phase ≠ .uninit ∧ D = C ∧ res = tigerImage e C := by
  simp [tigerSave, ok_eq_ok, -Except.ok.injEq]

theorem tigerLoad_eq_ok {limit : Nat} {e : Engine} {D : TigerCtx} {arg res : Bytes} :
    tigerLoad limit e arg = .ok (D, res) ↔
      arg.length = 104 ∧ tigerImageValid limit e arg = true ∧ D = tigerImageCtx arg ∧ res = [] := by
  simp [tigerLoad, ok_eq_ok, -Except.ok.injEq]

theorem tigerCompressCmd_eq_ok {S : Sbox} {arg res : Bytes} :
    tigerCompressCmd S arg = .ok res ↔
      arg.length = 88 ∧ res = chainBytes (tigerCompressWith S (chainAt arg 0) (blockAt arg 24)) := by
  simp [tigerCompressCmd, ok_eq_ok, -Except.ok.injEq]

end Sys2Proof.Machine
end

