-- ==== Sys2Proof/Tests/Slice0.lean ====
section
/-! SUPPORT. The model's own tests: the smoke test of WellFormed, every command's word written out bit by bit, one or two
single steps of each command with the values of spec/95_test_vectors.md (tables 1.1, 2.1 to 2.8, programs P1 to P6), and for
every obligation with hypotheses a concrete state and operands that meet them. -/

namespace Sys2Proof.Tests

open Sys2Proof Sys2Proof.Machine

set_option Elab.async false

/-! ## Helpers -/

/-- The state a step answers, if it answers one. -/
def nextState : Host.Outcome State Fault Refusal → Option State
  | .next t => some t
  | .fault _ => none
  | .refused _ => none

/-- The status and result a step answers. -/
def answer (o : Host.Outcome State Fault Refusal) : Option (Nat × Bytes) :=
  (nextState o).bind fun t => t.response.map fun r => (r.status.toNat, r.res)

/-- The status a step answers. -/
def statusOf (o : Host.Outcome State Fault Refusal) : Option Nat := (answer o).map Prod.fst

/-- `n` bytes written as one hex numeral, the first byte most significant. -/
def hexBytes (n w : Nat) : Bytes := (List.range n).map fun k => BitVec.ofNat 8 (w >>> (8 * (n - 1 - k)))

def abc : Bytes := [0x61, 0x62, 0x63]

/-- "The quick brown fox jumps over the lazy dog", 43 bytes. -/
def fox : Bytes := asmBytes (.text "The quick brown fox jumps over the lazy dog")

/-- Every context just initialised. -/
def ready : State :=
  { State.reset with
    tiger := tigerInitCtx, tiger2 := tigerInitCtx, rg32 := rgInitCtx 32, rg64 := rgInitCtx 64 }

/-- Every context after INIT and an ABSORB of fewer bytes than a block. -/
def holding (m : Bytes) : State :=
  { ready with
    tiger := { tigerInitCtx with phase := .accum, pb := m, totalLength := BitVec.ofNat 64 m.length }
    tiger2 := { tigerInitCtx with phase := .accum, pb := m, totalLength := BitVec.ofNat 64 m.length }
    rg32 := { rgInitCtx 32 with phase := .accum, pb := m }
    rg64 := { rgInitCtx 64 with phase := .accum, pb := m } }

/-- The Tiger engines at the end of the length counter (program P5): 63 pending bytes, 2^64 - 1 absorbed. -/
def atLimit : State :=
  { ready with
    tiger := { tigerInitCtx with phase := .accum, pb := zeros 63, totalLength := BitVec.allOnes 64 }
    tiger2 := { tigerInitCtx with phase := .accum, pb := zeros 63, totalLength := BitVec.allOnes 64 } }

/-- The SAVE image of TIGER after INIT and ABSORB "abc" (table 2.2), with engine byte `e`. -/
def abcImage (e : Byte) : Bytes :=
  [0x02, 0x03, e, 0, 0, 0, 0, 0, 0xEF, 0xCD, 0xAB, 0x89, 0x67, 0x45, 0x23, 0x01, 0x10, 0x32, 0x54, 0x76, 0x98, 0xBA, 0xDC,
    0xFE, 0x87, 0xE1, 0xB2, 0xC3, 0xB4, 0xA5, 0x96, 0xF0, 0x03, 0, 0, 0, 0, 0, 0, 0, 0x61, 0x62, 0x63] ++ zeros 61

/-- The SAVE image of a Tiger engine after INIT (table 2.2). -/
def initImage (e : Byte) : Bytes :=
  [0x01, 0, e, 0, 0, 0, 0, 0, 0xEF, 0xCD, 0xAB, 0x89, 0x67, 0x45, 0x23, 0x01, 0x10, 0x32, 0x54, 0x76, 0x98, 0xBA, 0xDC,
    0xFE, 0x87, 0xE1, 0xB2, 0xC3, 0xB4, 0xA5, 0x96, 0xF0] ++ zeros 72

/-- The SAVE image of RG32 after INIT and ABSORB "abc" (table 2.6). -/
def rg32AbcImage : Bytes := [0x02, 0x03, 0x02, 0, 0, 0, 0, 0] ++ zeros 232 ++ abc ++ zeros 9

/-- The SAVE image of RG64 after INIT (table 2.6). -/
def rg64InitImage : Bytes := [0x01, 0, 0x03, 0, 0, 0, 0, 0] ++ zeros 488

/-! ## WellFormed refuses an ill-formed call -/

/-- An operand of the wrong length (R76): a BLANK-sized operand on RG32.ROUND, table 2.1. -/
theorem test_wellFormed_refuses_a_wrong_operand_length :
    (Instr.rg32Round (zeros 232) 0).operandLengthOk = false ∧ (Instr.rg32Round (zeros 232) 0).wellFormed = false
      ∧ (Instr.rg32Round (zeros 244) 0).wellFormed = true := by decide +kernel

/-- An output length that is not the digest size (R79, R265). -/
theorem test_wellFormed_refuses_a_wrong_outlen :
    (Instr.tigerFinalize [] 25).outlenOk = false ∧ (Instr.tigerFinalize [] 25).wellFormed = false
      ∧ (Instr.tigerFinalize [] 24).wellFormed = true := by decide

/-! ## Codes written out from the encoding RSV OP ENG (R71, R74) -/

theorem test_decode_init :
    decode ⟨0b00000000, [], 0⟩ = .ok (.tigerInit [] 0) ∧ decode ⟨0b00000001, [], 0⟩ = .ok (.tiger2Init [] 0)
      ∧ decode ⟨0b00000010, [], 0⟩ = .ok (.rg32Init [] 0) ∧ decode ⟨0b00000011, [], 0⟩ = .ok (.rg64Init [] 0) := by
  decide +kernel

theorem test_decode_absorb :
    decode ⟨0b00000100, abc, 0⟩ = .ok (.tigerAbsorb abc 0) ∧ decode ⟨0b00000101, abc, 0⟩ = .ok (.tiger2Absorb abc 0)
      ∧ decode ⟨0b00000110, abc, 0⟩ = .ok (.rg32Absorb abc 0) ∧ decode ⟨0b00000111, abc, 0⟩ = .ok (.rg64Absorb abc 0) := by
  decide +kernel

theorem test_decode_finalize :
    decode ⟨0b00001000, [], 24⟩ = .ok (.tigerFinalize [] 24) ∧ decode ⟨0b00001001, [], 24⟩ = .ok (.tiger2Finalize [] 24)
      ∧ decode ⟨0b00001010, [], 32⟩ = .ok (.rg32Finalize [] 32) ∧ decode ⟨0b00001011, [], 32⟩ = .ok (.rg64Finalize [] 32) := by
  decide +kernel

theorem test_decode_transform :
    decode ⟨0b00001100, abc, 0⟩ = .ok (.tigerCompress abc 0) ∧ decode ⟨0b00001101, abc, 0⟩ = .ok (.tiger2Compress abc 0)
      ∧ decode ⟨0b00001110, abc, 0⟩ = .ok (.rg32Round abc 0) ∧ decode ⟨0b00001111, abc, 0⟩ = .ok (.rg64Round abc 0) := by
  decide +kernel

theorem test_decode_blank :
    decode ⟨0b00010010, abc, 0⟩ = .ok (.rg32Blank abc 0) ∧ decode ⟨0b00010011, abc, 0⟩ = .ok (.rg64Blank abc 0) := by
  decide +kernel

theorem test_decode_save :
    decode ⟨0b00010100, [], 0⟩ = .ok (.tigerSave [] 0) ∧ decode ⟨0b00010101, [], 0⟩ = .ok (.tiger2Save [] 0)
      ∧ decode ⟨0b00010110, [], 0⟩ = .ok (.rg32Save [] 0) ∧ decode ⟨0b00010111, [], 0⟩ = .ok (.rg64Save [] 0) := by
  decide +kernel

theorem test_decode_load :
    decode ⟨0b00011000, abc, 0⟩ = .ok (.tigerLoad abc 0) ∧ decode ⟨0b00011001, abc, 0⟩ = .ok (.tiger2Load abc 0)
      ∧ decode ⟨0b00011010, abc, 0⟩ = .ok (.rg32Load abc 0) ∧ decode ⟨0b00011011, abc, 0⟩ = .ok (.rg64Load abc 0) := by
  decide +kernel

/-- The illegal codes of table 2.1, each by the name of its cause. -/
theorem test_decode_refuses_by_name :
    decodeCode 0x10 = .error .blankOnTiger ∧ decodeCode 0x11 = .error .blankOnTiger ∧ decodeCode 0x1C = .error .reservedOp
      ∧ decodeCode 0x1F = .error .reservedOp ∧ decodeCode 0x20 = .error .reservedBits
      ∧ decodeCode 0x80 = .error .reservedBits ∧ decodeCode 0xE4 = .error .reservedBits
      ∧ decodeCode 0xFF = .error .reservedBits := by decide

/-- The mnemonics of R74 for the two commands whose name depends on the engine. -/
theorem test_mnemonic : mnemonic (.tiger2Compress [] 0) = "TIGER2.COMPRESS" ∧ mnemonic (.rg64Round [] 0) = "RG64.ROUND" := by
  decide

/-! ## Single steps: TIGER and TIGER2 (tables 1.1, 2.2, 2.3, 2.7; programs P2, P4, P5, P6) -/

theorem test_tigerInit :
    (nextState (exec (.tigerInit [] 0) State.reset)).map State.tiger
      = some { phase := .ready, pb := [], totalLength := 0
               cv := { a := 0x0123456789ABCDEF, b := 0xFEDCBA9876543210, c := 0xF096A5B4C3B2E187 } } := by decide +kernel

theorem test_tigerInit_operand : answer (exec (.tigerInit [0x00] 0) ready) = some (6, []) := by decide +kernel

theorem test_tiger2Init :
    (nextState (exec (.tiger2Init [] 7) (holding abc))).map State.tiger2 = some tigerInitCtx := by decide +kernel

theorem test_tigerAbsorb_abc :
    (nextState (exec (.tigerAbsorb abc 0) ready)).map State.tiger = some (holding abc).tiger := by decide +kernel

/-- Table 2.2: one whole block of zeros. -/
theorem test_tigerAbsorb_block :
    (nextState (exec (.tigerAbsorb (zeros 64) 0) ready)).map State.tiger
      = some { phase := .accum, pb := [], totalLength := 64
               cv := { a := 0x9D8EE573F006BCAF, b := 0xE9975A7881DD5D64, c := 0x78D44CC153ECC25B } } := by decide +kernel

/-- Program P4, step 6: the same chaining value as TIGER's. -/
theorem test_tiger2Absorb_block :
    (nextState (exec (.tiger2Absorb (zeros 64) 0) ready)).map (·.tiger2.cv)
      = some { a := 0x9D8EE573F006BCAF, b := 0xE9975A7881DD5D64, c := 0x78D44CC153ECC25B } := by decide +kernel

/-- Program P5, steps 2 and 3. -/
theorem test_tiger2Absorb_at_the_limit :
    answer (exec (.tiger2Absorb [0x00] 0) atLimit) = some (4, [])
      ∧ answer (exec (.tiger2Absorb [] 0) atLimit) = some (0, []) := by decide +kernel

/-- Program P6, steps 3 and 4: a limit of 100 with 64 bytes absorbed refuses 37 more and takes 36. -/
theorem test_tigerAbsorb_limit_as_a_parameter :
    (tigerAbsorb tigerSbox 100 { tigerInitCtx with phase := .accum, totalLength := 64 } (zeros 37)).isOk = false
      ∧ (tigerAbsorb tigerSbox 100 { tigerInitCtx with phase := .accum, totalLength := 64 } (zeros 36)).isOk = true := by
  decide +kernel

/-- Table 1.1: the published digest of the fox message. -/
theorem test_tigerFinalize_fox :
    answer (exec (.tigerFinalize [] 24) (holding fox))
      = some (0, hexBytes 24 0x6D12A41E72E644F017B6F0E2F7B44C6285F06DD5D2C5B075) := by decide +kernel

/-- Program P5, step 4: two compressions, and the length field taken mod 2^64. -/
theorem test_tigerFinalize_at_the_limit :
    answer (exec (.tigerFinalize [] 24) atLimit)
      = some (0, hexBytes 24 0x3BD043431FB72280D349DD6D12C54E6401525A0EDEDC9E4F) := by decide +kernel

/-- Table 1.1: the published digest of the fox message. -/
theorem test_tiger2Finalize_fox :
    answer (exec (.tiger2Finalize [] 24) (holding fox))
      = some (0, hexBytes 24 0x976ABFF8062A2E9DCEA3A1ACE966ED9C19CB85558B4976D8) := by decide +kernel

/-- Table 2.7: the order of the faults, and both sides of the digest size. -/
theorem test_tiger2Finalize_faults :
    statusOf (exec (.tiger2Finalize [0x00] 16) State.reset) = some 6
      ∧ statusOf (exec (.tiger2Finalize [] 16) State.reset) = some 2
      ∧ statusOf (exec (.tiger2Finalize [] 25) ready) = some 3
      ∧ statusOf (exec (.tiger2Finalize [] 0) ready) = some 3 := by decide +kernel

/-- Program P4, step 1, from reset. -/
theorem test_tigerCompress :
    answer (exec (.tigerCompress (compressOperand tigerIV (blockAt (zeros 64) 0)) 0) State.reset)
      = some (0, hexBytes 24 0xAFBC06F073E58E9D645DDD81785A97E95BC2EC53C14CD478) := by decide +kernel

theorem test_tigerCompress_operand : statusOf (exec (.tigerCompress (zeros 87) 0) ready) = some 6 := by decide +kernel

/-- Table 2.3: all-ones state and block. -/
theorem test_tiger2Compress_all_ones :
    answer (exec (.tiger2Compress (List.replicate 88 0xFF) 0) State.reset)
      = some (0, chainBytes { a := 0x1BD2890DBA73439E, b := 0xEC30413AA0F964F9, c := 0x18FFABAC6115F69D }) := by
  decide +kernel

/-- Table 2.3: one round from zero. -/
theorem test_tigerRound :
    tigerRound tigerSbox 0 0 0 0 5 = (0xB4625C73DA5F1D58, 0x7A1431BCBC246D48, 0) := by decide +kernel

/-- Table 2.3: the key schedule of the words 0 to 7. -/
theorem test_keySchedule :
    keySchedule ⟨0, 1, 2, 3, 4, 5, 6, 7⟩
      = ⟨0xD1D1D1F3F40F0F24, 0xC77776B0AC934B3B, 0x9D2D2CEAF6C9115A, 0x25B5B5737F6EB6FC, 0x62D2D2D1ADDD08B8,
         0xEA5A5A592578AD13, 0x61D1D1F2BF2D61D4, 0x1684E304632E088B⟩ := by decide

/-- Table 2.4. -/
theorem test_sbox_entries :
    tigerSbox 0 0 = 0x02AAB17CF7E90C5E ∧ tigerSbox 0 255 = 0xEBC18760ED78A77A ∧ tigerSbox 1 1 = 0xB5A122A5B4F87C98
      ∧ tigerSbox 2 0 = 0xF49FCC2FF1DAF39B ∧ tigerSbox 3 255 = 0xC3A0396F7363A51F := by decide +kernel

theorem test_tigerSave_abc : answer (exec (.tigerSave [] 0) (holding abc)) = some (0, abcImage 0) := by decide +kernel

theorem test_tiger2Save_init : answer (exec (.tiger2Save [] 0) ready) = some (0, initImage 1) := by decide +kernel

theorem test_tigerLoad_abc :
    (nextState (exec (.tigerLoad (abcImage 0) 0) State.reset)).map State.tiger = some (holding abc).tiger := by
  decide +kernel

/-- The LOAD table of 2.2: one image per failing check. -/
theorem test_tigerLoad_refuses :
    (([(0, 0x00), (0, 0x03), (1, 0x04), (1, 0x40), (2, 0x01), (5, 0x01), (0, 0x01)] : List (Nat × Byte)).all fun p =>
        statusOf (exec (.tigerLoad ((abcImage 0).set p.1 p.2) 0) State.reset) == some 5) = true
      ∧ statusOf (exec (.tigerLoad ((abcImage 0).set 100 0xFF) 0) State.reset) = some 0
      ∧ statusOf (exec (.tigerLoad ((abcImage 0).take 103) 0) State.reset) = some 6 := by decide +kernel

theorem test_tiger2Load :
    statusOf (exec (.tiger2Load (abcImage 1) 0) State.reset) = some 0
      ∧ statusOf (exec (.tiger2Load (abcImage 0) 0) State.reset) = some 5 := by decide +kernel

/-! ## Single steps: RG32 and RG64 (tables 1.1, 2.5, 2.6, 2.7; program P3) -/

theorem test_rg32Init :
    (nextState (exec (.rg32Init [] 0) (holding abc))).map State.rg32
      = some { phase := .ready, pb := [], mill := Vector.replicate 19 0, belt := Vector.replicate 39 0 } := by
  decide +kernel

theorem test_rg64Init :
    (nextState (exec (.rg64Init [] 0) State.reset)).map State.rg64
      = some { phase := .ready, pb := [], mill := Vector.replicate 19 0, belt := Vector.replicate 39 0 } := by
  decide +kernel

/-- Table 2.6: one full block, "abcdefghijkl". -/
theorem test_rg32Absorb_block :
    (nextState (exec (.rg32Absorb (hexBytes 12 0x6162636465666768696A6B6C) 0) ready)).map (fun t =>
        (t.rg32.phase, t.rg32.pb, t.rg32.mill.toList.take 10, t.rg32.belt.toList))
      = some (.accum, [],
          [0xFFFFFFFE, 0x07A15365, 0xD37393B3, 0xFFFFFFFF, 0xBDEB898F, 0x2B2D3F29, 0xFFFFFFFF, 0x69394959, 0x69394959,
           0xFF7F7F7E],
          [0, 0, 0, 0x64636261, 0x68676665, 0x6C6B6A69] ++ List.replicate 33 0) := by decide +kernel

theorem test_rg32Absorb_uninit : answer (exec (.rg32Absorb abc 0) State.reset) = some (2, []) := by decide +kernel

theorem test_rg64Absorb_abc :
    (nextState (exec (.rg64Absorb abc 0) ready)).map State.rg64 = some (holding abc).rg64 := by decide +kernel

/-- Table 2.6. -/
theorem test_rg32Finalize_abc :
    answer (exec (.rg32Finalize [] 32) (holding abc))
      = some (0, hexBytes 32 0x6E3F3D756AF1579A03078E68E951EA4B3BAA64AFB2F09EE3E2E88393E31EBAEA) := by decide +kernel

theorem test_rg32Finalize_outlen : answer (exec (.rg32Finalize [] 31) (holding abc)) = some (3, []) := by decide +kernel

/-- Table 1.1: the published digest of the empty message. -/
theorem test_rg64Finalize_empty :
    answer (exec (.rg64Finalize [] 32) ready)
      = some (0, hexBytes 32 0x64A9A7FA139905B57BDAB35D33AA216370D5EAE13E77BFCDD85513408311A584) := by decide +kernel

/-- Table 2.5: zero mill and belt, input words 1, 2, 3. -/
theorem test_rg32Round :
    answer (exec (.rg32Round (zeros 232 ++ [1, 0, 0, 0, 2, 0, 0, 0, 3, 0, 0, 0]) 0) State.reset)
      = some (0, bytesOf ([0xFFFFFFFE, 0xDFFFFFFF, 0xDFFFFFFF, 0xFFFFFFFF, 0xCFFFFFFF, 0xFFFFFFFF, 0xFFFFFFFF, 0xCFFFFFFF,
          0xCFFFFFFF, 0xFFFFFFBF, 0xFFFFFFFF, 0xFFFFFFFF, 0xFDFFFFBF, 0xFFFFFFBF, 0xFFFFFFFF, 0xFDFFFFFF, 0xFDFFFFFF,
          0xDFFFFFFF, 0xFFFFFFFF, 0, 0, 0, 1, 2, 3] : List (BitVec 32)) ++ zeros 132) := by decide +kernel

/-- Table 2.5, the first ten mill words of the result. -/
theorem test_rg64Round :
    (answer (exec (.rg64Round (zeros 464 ++ bytesOf ([1, 2, 3] : List W64)) 0) State.reset)).map
        (fun a => (a.1, a.2.length, a.2.take 80))
      = some (0, 464, bytesOf ([0xFFFFFFFFFFFFFFFE, 0xDFFFFFFFFFFFFFFF, 0xDFFFFFFFFFFFFFFF, 0xFFFFFFFFFFFFFFFF,
          0xFFFFFFFFCFFFFFFF, 0xFFFFFFFFFFFFFFFF, 0xFFFFFFFFFFFFFFFF, 0xFFFFFFFFCFFFFFFF, 0xFFFFFFFFCFFFFFFF,
          0xFFFFFFBFFFFFFFFF] : List W64)) := by decide +kernel

/-- Table 2.1: a ROUND of RG32's size on RG64, and a ROUND-sized operand on BLANK. -/
theorem test_round_and_blank_operands :
    statusOf (exec (.rg64Round (zeros 244) 0) ready) = some 6 ∧ statusOf (exec (.rg32Blank (zeros 244) 0) ready) = some 6 := by
  decide +kernel

theorem test_rg32Blank :
    answer (exec (.rg32Blank (zeros 232) 0) State.reset)
      = some (0, [0xFE] ++ List.replicate 75 0xFF ++ zeros 156) := by decide +kernel

theorem test_rg64Blank :
    answer (exec (.rg64Blank (zeros 464) 0) State.reset)
      = some (0, [0xFE] ++ List.replicate 151 0xFF ++ zeros 312) := by decide +kernel

/-- Table 2.5: the mill function of the words 0 to 18, its first six words. -/
theorem test_millFn :
    ((millFn (W := 32) (Vector.ofFn fun i => BitVec.ofNat 32 i.val)).toList.take 6
        = [0xFDFFFFFF, 0x3FDBFFFF, 0x27FFCFFC, 0xE5FFFF5F, 0xCDDBFFFE, 0xFFABCFFF])
      ∧ ((millFn (W := 64) (Vector.ofFn fun i => BitVec.ofNat 64 i.val)).toList.take 6
        = [0xFDFFFFFFFFFFFFFF, 0x3FDBFFFFFFFFFFFF, 0x27FFCFFFFFFFFFFC, 0xE5FFFF5FFFFFFFFF, 0xFDDBFFFECFFFFFFF,
           0xFFDBCFFFFF8FFFFF]) := by decide +kernel

theorem test_rg32Save_abc : answer (exec (.rg32Save [] 0) (holding abc)) = some (0, rg32AbcImage) := by decide +kernel

theorem test_rg64Save_init : answer (exec (.rg64Save [] 0) ready) = some (0, rg64InitImage) := by decide +kernel

theorem test_rg32Load_abc :
    (nextState (exec (.rg32Load rg32AbcImage 0) State.reset)).map State.rg32 = some (holding abc).rg32 := by decide +kernel

/-- The LOAD table of 2.6 and 2.1. -/
theorem test_rg32Load_refuses :
    statusOf (exec (.rg32Load (rg32AbcImage.set 1 0x0C) 0) State.reset) = some 5
      ∧ statusOf (exec (.rg32Load (rg32AbcImage.set 0 0x01) 0) State.reset) = some 5
      ∧ statusOf (exec (.rg32Load rg64InitImage 0) State.reset) = some 6 := by decide +kernel

theorem test_rg64Load :
    statusOf (exec (.rg64Load rg64InitImage 0) State.reset) = some 0
      ∧ statusOf (exec (.rg64Load (rg64InitImage.set 8 0x01) 0) State.reset) = some 5 := by decide +kernel

/-! ## Steps -/

/-- The first instruction after reset is the one placed there (table 2.7: SAVE on an uninitialised context). -/
theorem test_step_runs_the_placed_word : answer (step (State.reset.withFetchWord 8 0x17)) = some (2, []) := by
  decide +kernel

/-- Table 2.1: illegal codes, the length of the operand not examined; a fault is not sticky (table 2.7). -/
theorem test_step_illegal_codes :
    (([0x10, 0x11, 0x1C, 0x1F, 0x20, 0x80, 0xE4, 0xFF] : List Byte).all fun c =>
        answer (step { ready with pending := [{ cmd := c, arg := zeros 1000, outlen := 3 }] }) == some (1, [])) = true
      ∧ (nextState (step { ready with status := 5, pending := [{ cmd := 0, arg := [], outlen := 0 }] })).map
          (fun t => (t.status, t.index, t.pending)) = some (0, 1, []) := by decide +kernel

/-- Rotation right by 1 moves bit 0 to the top (R12). -/
theorem test_rotr : rotr (0x00000003#32) 1 = 0x80000001#32 := by decide

/-- The example of R14: the least significant byte first. -/
theorem test_leStore : leStore (0x0123456789ABCDEF#64) = [0xEF, 0xCD, 0xAB, 0x89, 0x67, 0x45, 0x23, 0x01] := by decide

/-! ## Witnesses: concrete states and operands that meet the hypotheses of the obligations, at the ends of their ranges -/

/-- A state whose host has issued one command. -/
def issued (c : Command) : State := { ready with pending := [c] }

/-- Contexts that hold `n` pending zero bytes. -/
def tigerHolding (n : Nat) : State := holding (zeros n)

/-- A state between blocks: RG contexts that have absorbed whole blocks only. -/
def betweenBlocks : State :=
  { ready with
    rg32 := { rgInitCtx 32 with phase := .accum, mill := Vector.replicate 19 1 }
    rg64 := { rgInitCtx 64 with phase := .accum, belt := Vector.replicate 39 1 } }

theorem witness_IllegalCodesRaiseIllegalCommand :
    (issued ⟨0x10, [], 0⟩).pending = [⟨0x10, [], 0⟩]
      ∧ (∀ c ∈ ([0x10, 0x11, 0x1C, 0xFF] : List Byte), c.toNat = 0x10 ∨ c.toNat = 0x11 ∨ 0x1C ≤ c.toNat)
      ∧ ∀ c ∈ ([0x0F, 0x12, 0x1B] : List Byte), ¬ (c.toNat = 0x10 ∨ c.toNat = 0x11 ∨ 0x1C ≤ c.toNat) := by decide

theorem witness_StepRunsTheDecodedCommand :
    (issued ⟨0x1B, [], 5⟩).pending = [⟨0x1B, [], 5⟩] ∧ decode ⟨0x1B, [], 5⟩ = .ok (.rg64Load [] 5) := by decide +kernel

theorem witness_StepWaitsWithNothingPending : State.reset.pending = [] := rfl

theorem witness_EveryCommandAdvancesTheIndex :
    ({ ready with pending := [⟨0xFF, [], 0⟩, ⟨0x00, [], 0⟩] } : State).pending = ⟨0xFF, [], 0⟩ :: [⟨0x00, [], 0⟩] := rfl

theorem witness_StatusIsTheFirstCauseThatApplies :
    (issued ⟨0x09, [0x00], 25⟩).pending = [⟨0x09, [0x00], 25⟩]
      ∧ statusOf (step (issued ⟨0x09, [0x00], 25⟩)) = some 6 ∧ statusOf (step (issued ⟨0x09, [], 25⟩)) = some 3
      ∧ statusOf (step (issued ⟨0x1C, [0x00], 25⟩)) = some 1 ∧ statusOf (step (issued ⟨0x1A, zeros 252, 0⟩)) = some 5
      ∧ statusOf (step { atLimit with pending := [⟨0x04, [0x00], 0⟩] }) = some 4
      ∧ statusOf (step { State.reset with pending := [⟨0x08, [], 25⟩] }) = some 2
      ∧ statusOf (step (issued ⟨0x03, [], 0⟩)) = some 0 := by decide +kernel

theorem witness_FaultingCommandsOnlyWriteStatus :
    exec (.rg32Save [] 0) State.reset = .next (State.reset.faulted 2) ∧ (State.reset.faulted 2).status ≠ 0 :=
  ⟨rfl, by decide⟩

theorem witness_StepKeepsTheInvariant : atLimit.Inv ∧ (holding abc).Inv ∧ statusOf (step (issued ⟨0x00, [], 0⟩)) = some 0 := by
  decide +kernel

theorem witness_UninitContextRefusesAbsorbFinalizeAndSave :
    State.reset.phaseOf (opEngine (.tigerAbsorb abc 0)).2 = .uninit ∧ (opEngine (.tigerAbsorb abc 0)).1 = .absorb
      ∧ State.reset.phaseOf (opEngine (.rg64Finalize [] 32)).2 = .uninit ∧ (opEngine (.rg64Finalize [] 32)).1 = .finalize
      ∧ State.reset.phaseOf (opEngine (.rg32Save [] 0)).2 = .uninit ∧ (opEngine (.rg32Save [] 0)).1 = .save
      ∧ exec (.tigerInit [] 0) State.reset = .next ((State.reset.setTiger tigerInitCtx).answered [])
      ∧ (opEngine (.tigerInit [] 0)).1 = .init := ⟨rfl, rfl, rfl, rfl, rfl, rfl, rfl, rfl⟩

theorem witness_InitRefusesAnOperand : ([0x00] : Bytes) ≠ [] := by decide

/-- Each clause of the two ABSORB statements: not initialised, at the limit, one byte more, and a fill of 63. -/
theorem witness_TigerAbsorbTakesWholeBlocks :
    State.reset.tiger.phase = .uninit ∧ State.reset.tiger2.phase = .uninit
      ∧ atLimit.tiger.phase ≠ .uninit ∧ 2 ^ 64 ≤ atLimit.tiger.totalLength.toNat + ([0x00] : Bytes).length
      ∧ atLimit.tiger.totalLength.toNat + ([] : Bytes).length < 2 ^ 64 ∧ atLimit.tiger.pb.length = 63
      ∧ atLimit.tiger2.phase ≠ .uninit ∧ 2 ^ 64 ≤ atLimit.tiger2.totalLength.toNat + ([0x00] : Bytes).length
      ∧ atLimit.tiger2.totalLength.toNat + ([] : Bytes).length < 2 ^ 64 ∧ atLimit.tiger2.pb.length = 63 := by decide +kernel

theorem witness_RadioGatunAbsorbTakesWholeBlocks :
    State.reset.rg32.phase = .uninit ∧ State.reset.rg64.phase = .uninit
      ∧ (holding (zeros 11)).rg32.phase ≠ .uninit ∧ (holding (zeros 11)).rg32.pb.length = 11
      ∧ (holding (zeros 23)).rg64.phase ≠ .uninit ∧ (holding (zeros 23)).rg64.pb.length = 23 := by decide +kernel

/-- Each clause of the FINALIZE statements: fills 0, 55 and 56 (one and two final blocks) and 63, both sides of the digest
size. -/
theorem witness_TigerFinalizePadsAndReturnsTheDigest :
    ([0x00] : Bytes) ≠ [] ∧ State.reset.tiger.phase = .uninit ∧ State.reset.tiger2.phase = .uninit ∧ (25 : Nat) ≠ 24
      ∧ (23 : Nat) ≠ 24
      ∧ ∀ n ∈ [0, 55, 56, 63], (tigerHolding n).tiger.phase ≠ .uninit ∧ (tigerHolding n).tiger.pb.length = n
        ∧ (tigerHolding n).tiger2.phase ≠ .uninit ∧ (tigerHolding n).tiger2.pb.length < 64 := by decide +kernel

theorem witness_RadioGatunFinalizePadsAndReturnsTheDigest :
    ([0x00] : Bytes) ≠ [] ∧ State.reset.rg32.phase = .uninit ∧ State.reset.rg64.phase = .uninit ∧ (33 : Nat) ≠ 32
      ∧ (∀ n ∈ [0, 11], (holding (zeros n)).rg32.phase ≠ .uninit ∧ (holding (zeros n)).rg32.pb.length = n)
      ∧ ∀ n ∈ [0, 23], (holding (zeros n)).rg64.phase ≠ .uninit ∧ (holding (zeros n)).rg64.pb.length = n := by decide +kernel

theorem witness_PureCommandsRefuseOtherLengths :
    (zeros 87).length ≠ 88 ∧ (zeros 89).length ≠ 88 ∧ (zeros 232).length ≠ 244 ∧ (zeros 244).length ≠ 488
      ∧ (zeros 244).length ≠ 232 ∧ (zeros 463).length ≠ 464 := by decide +kernel

theorem witness_SaveReturnsTheImage :
    ([0x00] : Bytes) ≠ [] ∧ State.reset.tiger.phase = .uninit ∧ State.reset.tiger2.phase = .uninit
      ∧ State.reset.rg32.phase = .uninit ∧ State.reset.rg64.phase = .uninit
      ∧ ready.tiger.phase = .ready ∧ (holding abc).tiger2.phase = .accum ∧ ready.rg32.phase = .ready
      ∧ (holding abc).rg64.phase = .accum := by decide +kernel

/-- Images that LOAD accepts, at fill 0, 3 and 63, and one that fails each check. -/
theorem witness_TigerLoadAcceptsExactlyTheValidImages :
    (∀ p ∈ [(0, abcImage 0), (1, abcImage 1), (0, initImage 0), (1, initImage 1), (0, tigerImage .tiger atLimit.tiger)],
        p.2.length = 104 ∧ tigerImageAccepted p.1 p.2)
      ∧ (∀ p ∈ [(0, abcImage 1), (1, abcImage 0), (0, (abcImage 0).set 0 0), (0, (abcImage 0).set 1 64),
          (0, (abcImage 0).set 7 1), (0, (initImage 0).set 0 2), (0, (initImage 0).set 8 0)],
        p.2.length = 104 ∧ ¬ tigerImageAccepted p.1 p.2)
      ∧ (zeros 103).length ≠ 104 := by decide +kernel

theorem witness_Rg32LoadAcceptsExactlyTheValidImages :
    (rg32AbcImage.length = 252 ∧ rgImageAccepted 32 2 rg32AbcImage)
      ∧ (∀ img ∈ [rg32AbcImage.set 1 12, rg32AbcImage.set 0 1, rg32AbcImage.set 2 3],
          img.length = 252 ∧ ¬ rgImageAccepted 32 2 img)
      ∧ (zeros 496).length ≠ 252 := by decide +kernel

theorem witness_Rg64LoadAcceptsExactlyTheValidImages :
    (rg64InitImage.length = 496 ∧ rgImageAccepted 64 3 rg64InitImage)
      ∧ (∀ img ∈ [rg64InitImage.set 471 1, rg64InitImage.set 2 2, rg64InitImage.set 3 1],
          img.length = 496 ∧ ¬ rgImageAccepted 64 3 img)
      ∧ (zeros 252).length ≠ 496 := by decide +kernel

theorem witness_LoadOfSaveIsTheIdentity :
    atLimit.tiger.Inv ∧ atLimit.tiger.phase ≠ .uninit ∧ ready.tiger2.Inv ∧ ready.tiger2.phase ≠ .uninit
      ∧ (holding (zeros 11)).rg32.Inv ∧ (holding (zeros 11)).rg32.phase ≠ .uninit
      ∧ betweenBlocks.rg64.Inv ∧ betweenBlocks.rg64.phase ≠ .uninit := by decide +kernel

theorem witness_LoadIgnoresTheBytesPastFill :
    (abcImage 0).length = 104 ∧ ((abcImage 0).set 43 0xFF).length = 104
      ∧ (abcImage 0).take (40 + ((abcImage 0).getD 1 0).toNat) = ((abcImage 0).set 43 0xFF).take (40 + ((abcImage 0).getD 1 0).toNat)
      ∧ rg32AbcImage.length = 252
      ∧ rg32AbcImage.take (240 + (rg32AbcImage.getD 1 0).toNat)
          = (rg32AbcImage.set 251 0xFF).take (240 + (rg32AbcImage.getD 1 0).toNat)
      ∧ rg64InitImage.length = 496
      ∧ rg64InitImage.take (472 + (rg64InitImage.getD 1 0).toNat)
          = (rg64InitImage.set 472 0xFF).take (472 + (rg64InitImage.getD 1 0).toNat) := by decide +kernel

theorem witness_SplittingTheStreamLeavesNoTrace :
    ready.exceedsLimit .tiger ([[0x61], [0x62, 0x63]] : List Bytes).flatten.length = false
      ∧ State.reset.exceedsLimit .tiger2 ([] : List Bytes).flatten.length = false
      ∧ atLimit.exceedsLimit .tiger ([[], []] : List Bytes).flatten.length = false
      ∧ (holding abc).exceedsLimit .rg64 ([abc, [], abc] : List Bytes).flatten.length = false := by decide +kernel

theorem witness_TigerStreamGivesTheWholeMessageHash :
    (Engine.tiger = .tiger ∨ Engine.tiger = .tiger2) ∧ (Engine.tiger2 = .tiger ∨ Engine.tiger2 = .tiger2)
      ∧ ([abc, [], abc] : List Bytes).flatten.length < 2 ^ 64 := by decide

theorem witness_SecondFinalizeReturnsTheEmptyDigest :
    (∃ t, exec (finalizeOf .tiger) ready = .next t ∧ t.status = 0)
      ∧ (∃ t, exec (finalizeOf .tiger2) (holding abc) = .next t ∧ t.status = 0)
      ∧ (∃ t, exec (finalizeOf .rg32) ready = .next t ∧ t.status = 0)
      ∧ ∃ t, exec (finalizeOf .rg64) (holding abc) = .next t ∧ t.status = 0 :=
  ⟨⟨_, rfl, rfl⟩, ⟨_, rfl, rfl⟩, ⟨_, rfl, rfl⟩, ⟨_, rfl, rfl⟩⟩

theorem witness_TigerPadEndsTheMessageOnABlock : 55 % 64 ≤ 55 ∧ 56 ≤ 56 % 64 ∧ 64 % 64 ≤ 55 ∧ 56 ≤ 63 % 64 := by decide

theorem witness_CompressIsAbsorbOfOneBlock : (List.replicate 64 (0xFF : Byte)).length = 64 := by decide +kernel

theorem witness_RoundIsAbsorbOfOneBlock :
    betweenBlocks.rg32.phase ≠ .uninit ∧ betweenBlocks.rg32.pb = [] ∧ (zeros 12).length = 12
      ∧ betweenBlocks.rg64.phase ≠ .uninit ∧ betweenBlocks.rg64.pb = [] ∧ (zeros 24).length = 24 := by decide +kernel

theorem witness_RoundOfZeroInputIsBlank :
    (List.replicate 232 (0x5A : Byte)).length = 232 ∧ (List.replicate 464 (0x5A : Byte)).length = 464 := by decide +kernel

theorem witness_TigerEnginesAgreeUntilFinalize :
    atLimit.tiger = atLimit.tiger2 ∧ atLimit.tiger.phase ≠ .uninit ∧ atLimit.tiger.pb.length < 64
      ∧ (∃ t, execAll [.tigerInit [] 0, .tiger2Init [] 0] atLimit = .next t)
      ∧ ∃ t, execAll [.tigerAbsorb [] 0, .tiger2Absorb [] 0] State.reset = .next t :=
  ⟨by decide +kernel, by decide, by decide +kernel, ⟨_, rfl⟩, ⟨_, rfl⟩⟩

theorem witness_BothWordLengths : 32 ∈ [32, 64] ∧ 64 ∈ [32, 64] := by decide

theorem witness_LittleEndianLoadAndStore : 3 + 4 ≤ (zeros 7).length ∧ 0 + 8 ≤ (zeros 8).length ∧ (7 : Nat) < 8 := by decide

theorem witness_RotationMovesEachBit : (0 : Nat) < 64 ∧ 63 < 64 ∧ 0 < 1 := by decide

theorem witness_LengthCounterNeverWraps :
    (100 : Nat) ≤ 2 ^ 64 - 1 ∧ (2 ^ 64 - 1 : Nat) ≤ 2 ^ 64 - 1
      ∧ (tigerAbsorb tigerSbox (2 ^ 64 - 1) atLimit.tiger []).isOk = true
      ∧ (tigerAbsorb tigerSbox (2 ^ 64 - 1) atLimit.tiger [0x00]).isOk = false := by decide +kernel

theorem witness_CommandsWriteOnlyTheirOwnContext :
    (∃ t, exec (.rg32Init [] 0) ready = .next t) ∧ Engine.rg64 ≠ (opEngine (.rg32Init [] 0)).2
      ∧ (∃ t, exec (.rg32Round [] 0) ready = .next t) ∧ isPure (.rg32Round [] 0) = true :=
  ⟨⟨_, rfl⟩, by decide, ⟨_, rfl⟩, rfl⟩

theorem witness_CommandsReadOnlyTheirOwnContext :
    ready.sameCtx { atLimit with rg32 := rgInitCtx 32 } (opEngine (.rg32Save [] 0)).2 ∧ ready ≠ atLimit :=
  ⟨rfl, by decide +kernel⟩

theorem witness_DifferentEnginesCommute :
    (opEngine (.tigerAbsorb abc 0)).2 ≠ (opEngine (.tiger2Absorb abc 0)).2
      ∧ (opEngine (.rg32Init [] 0)).2 ≠ (opEngine (.rg64Finalize [] 32)).2 := by decide

theorem witness_PureCommandsDependOnTheOperandAlone : isPure (.tigerCompress abc 0) = true ∧ isPure (.rg64Blank [] 0) = true :=
  ⟨rfl, rfl⟩

/-- A command that completes OK in each of the three phases, and one that faults. -/
theorem witness_PhasesFollowTheTransitionTable :
    (∃ t, exec (.tigerInit [] 0) State.reset = .next t ∧ t.status = 0)
      ∧ (∃ t, exec (.tigerSave [] 0) ready = .next t ∧ t.status = 0)
      ∧ (∃ t, exec (.rg64Save [] 0) (holding abc) = .next t ∧ t.status = 0)
      ∧ ∃ t, exec (.rg64Save [] 0) State.reset = .next t ∧ t.status ≠ 0 :=
  ⟨⟨_, rfl, rfl⟩, ⟨_, rfl, rfl⟩, ⟨_, rfl, rfl⟩, ⟨_, rfl, by decide⟩⟩

theorem witness_RepeatingAnIdempotentCommandChangesNothing :
    ((opEngine (.tigerInit [] 0)).1 = .init ∧ ∃ t, exec (.tigerInit [] 0) (holding abc) = .next t)
      ∧ ((opEngine (.rg32Absorb [] 0)).1 = .absorb ∧ (Instr.rg32Absorb [] 0).arg = []
        ∧ ∃ t, exec (.rg32Absorb [] 0) ready = .next t)
      ∧ ((opEngine (.rg64Save [] 0)).1 = .save ∧ ∃ t, exec (.rg64Save [] 0) (holding abc) = .next t)
      ∧ ((opEngine (.tiger2Load [] 0)).1 = .load ∧ ∃ t, exec (.tiger2Load [] 0) ready = .next t)
      ∧ isPure (.rg32Blank [] 0) = true :=
  ⟨⟨rfl, _, rfl⟩, ⟨rfl, rfl, _, rfl⟩, ⟨rfl, _, rfl⟩, ⟨rfl, _, rfl⟩, rfl⟩

theorem witness_ResultsHaveTheTabulatedLength :
    (holding abc).Inv ∧ ∃ t, exec (.tigerSave [] 0) (holding abc) = .next t ∧ t.status = 0 :=
  ⟨by decide +kernel, _, rfl, rfl⟩

theorem witness_WellFormedCallsRaiseNoLengthFaultAndIllFormedCallsFault :
    (Instr.rg32Finalize [] 32).wellFormed = true ∧ (opEngine (.rg32Finalize [] 32)).1 = .finalize
      ∧ ready.phaseOf (opEngine (.rg32Finalize [] 32)).2 ≠ .uninit ∧ (Instr.rg32Finalize [] 31).wellFormed = false
      ∧ (Instr.rg32Save abc 0).wellFormed = false := by decide +kernel

theorem witness_OutlenIsReadOnlyByFinalize :
    Op.save ≠ .finalize ∧ instrOf .save .rg32 [] 0 = .ok (.rg32Save [] 0) ∧ instrOf .save .rg32 [] 9 = .ok (.rg32Save [] 9) :=
  ⟨by decide, rfl, rfl⟩

theorem witness_AssembledLinesDecodeToTheirCommand :
    (∀ e img, AsmLine.finalize .tiger (some 25) ≠ .load e img)
      ∧ (∀ e img, AsmLine.save .rg32 ≠ .load e img) ∧ (∀ e n, AsmLine.save .rg32 ≠ .finalize e (some n))
      ∧ ∀ ch ∈ "\t~\x7f".toList, ch.toNat < 128 :=
  ⟨fun _ _ h => AsmLine.noConfusion h, fun _ _ h => AsmLine.noConfusion h, fun _ _ h => AsmLine.noConfusion h, by simp⟩

theorem witness_PseudoCommandsDoWhatR86Says :
    (holding abc).Inv ∧ (∀ e, (holding abc).phaseOf e ≠ .uninit) ∧ ready.Inv ∧ ∀ e, ready.phaseOf e ≠ .uninit :=
  ⟨by decide +kernel, fun e => by cases e <;> decide, by decide +kernel, fun e => by cases e <;> decide⟩

/-- R85: the text of ASCII characters, and a line of each pure command's engine (R74, R77). -/
theorem test_assemble :
    assemble (.absorb .tiger2 (.text "abc")) = ⟨0x05, abc, 0⟩ ∧ assemble (.finalize .rg64 none) = ⟨0x0B, [], 32⟩
      ∧ assemble (.compress true ⟨1, 2, 3⟩ ⟨4, 5, 6, 7, 8, 9, 10, 11⟩)
        = ⟨0x0D, bytesOf ([1, 2, 3, 4, 5, 6, 7, 8, 9, 10, 11] : List W64), 0⟩ := by decide +kernel

end Sys2Proof.Tests
end

section
/-! The words and the length counter of 00_scope.md: what a little-endian load stands for and where a rotation takes each
bit, then the obligations O44, O45 and O46. -/

namespace Sys2Proof.Machine

/-! ## Little-endian words (R14) -/

/-- A sequence's number is below the bound of its length, so a load of as many bytes loses nothing. -/
theorem leNat_lt (s : Bytes) : leNat s < 256 ^ s.length := by
  induction s with
  | nil => simp [leNat]
  | cons x s ih =>
    have hx : x.toNat < 256 := x.isLt
    simp only [leNat, List.length_cons, pow_succ]
    omega

/-- The number of a sequence, defined by Horner's scheme, is the weighted sum of R14. -/
theorem leNat_eq_sum (s : Bytes) :
    leNat s = ((List.range s.length).map fun k => (s.getD k 0).toNat * 2 ^ (8 * k)).sum := by
  induction s with
  | nil => rfl
  | cons x s ih =>
    have shift : (fun k => ((x :: s).getD k 0).toNat * 2 ^ (8 * k)) ∘ Nat.succ
        = fun k => 256 * ((s.getD k 0).toNat * 2 ^ (8 * k)) := by
      funext k
      simp only [Function.comp_apply, Nat.succ_eq_add_one, List.getD_cons_succ]
      ring
    rw [leNat, ih, List.length_cons, List.range_succ_eq_map, List.map_cons, List.map_map, shift, List.sum_cons,
      List.sum_map_mul_left]
    simp

/-- Byte `k` of `s[o..o+b)` is byte `o + k` of `s` (R15). -/
theorem getD_slice (s : Bytes) (o b k : Nat) (h : k < b) : (slice s o (o + b)).getD k 0 = s.getD (o + k) 0 := by
  simp [slice, h]

/-- A load within the sequence reads exactly the number of its bytes. -/
theorem leLoad_toNat (b : Nat) (s : Bytes) (o : Nat) (h : o + b ≤ s.length) :
    (leLoad (8 * b) s o).toNat = leNat (slice s o (o + b)) := by
  have hlen : (slice s o (o + b)).length = b := by rw [length_slice]; omega
  have hlt := leNat_lt (slice s o (o + b))
  rw [hlen] at hlt
  rw [leLoad, Nat.mul_div_cancel_left b (by norm_num), BitVec.toNat_ofNat, pow_mul]
  exact Nat.mod_eq_of_lt hlt

/-- `le_load_n(s, o)` within the sequence is the sum of R14. -/
theorem leLoad_toNat_eq_sum (b : Nat) (s : Bytes) (o : Nat) (h : o + b ≤ s.length) :
    (leLoad (8 * b) s o).toNat = ((List.range b).map fun k => (s.getD (o + k) 0).toNat * 2 ^ (8 * k)).sum := by
  have hlen : (slice s o (o + b)).length = b := by rw [length_slice]; omega
  rw [leLoad_toNat b s o h, leNat_eq_sum, hlen]
  congr 1
  refine List.map_congr_left fun k hk => ?_
  rw [getD_slice s o b k (List.mem_range.mp hk)]

/-- Byte `k` of `le_store_n(x)` is `byte_k(x)` (R14). -/
theorem getD_leStore {n : Nat} (x : BitVec n) (k : Nat) (h : k < n / 8) : (leStore x).getD k 0 = byteAt k x := by
  simp [leStore, h]

/-- `byte_k(x)` is the bits `8k+7` to `8k` of `x` (R13). -/
theorem byteAt_eq_extractLsb {n : Nat} (k : Nat) (x : BitVec n) :
    byteAt k x = (x.extractLsb (8 * k + 7) (8 * k)).setWidth 8 := by
  apply BitVec.eq_of_toNat_eq
  simp [byteAt, BitVec.extractLsb]

/-- Settles O44: a load is the number of its slice, which Horner's scheme makes the sum of R14; a store lists the bytes
of R13. -/
theorem littleEndianLoadAndStore : Obligations.LittleEndianLoadAndStore := by
  unfold Obligations.LittleEndianLoadAndStore
  intro b
  have hb : 8 * b / 8 = b := Nat.mul_div_cancel_left b (by norm_num)
  refine ⟨leLoad_toNat_eq_sum b, fun x => ⟨?length, fun k hk => ?byte, ?roundTrip⟩⟩
  case length => rw [length_leStore, hb]
  case byte => rw [getD_leStore x k (by omega), byteAt_eq_extractLsb]
  case roundTrip => simpa using leLoad_leStore_append (Dvd.intro b rfl) x []

/-! ## Rotations (R12) -/

/-- Bit `j` of the rotated word comes from bit `(j + r) mod n`: below `n - r` the right shift supplies it, from there on
the left shift. -/
theorem getLsbD_rotr {n : Nat} (x : BitVec n) {r j : Nat} (hr : r < n) (hj : j < n) :
    (rotr x r).getLsbD j = x.getLsbD ((j + r) % n) := by
  simp only [rotr, BitVec.getLsbD_or, BitVec.getLsbD_ushiftRight, BitVec.getLsbD_shiftLeft, hj, decide_true,
    Bool.true_and]
  rcases Nat.eq_zero_or_pos r with rfl | hpos
  · simp [Nat.mod_eq_of_lt hj]
  rw [Nat.mod_eq_of_lt (by omega : n - r < n)]
  by_cases hlow : j + r < n
  · have : j < n - r := by omega
    simp [this, Nat.mod_eq_of_lt hlow, Nat.add_comm r j]
  · have hwrap : (j + r) % n = j - (n - r) := by
      rw [Nat.mod_eq_sub_mod (by omega), Nat.mod_eq_of_lt (by omega)]
      omega
    have hout : x.getLsbD (r + j) = false := BitVec.getLsbD_of_ge x _ (by omega)
    have : ¬ j < n - r := by omega
    simp [this, hwrap, hout]

/-- Two moves around the `n` bits that together make one full turn lead back to the same bit. -/
theorem mod_add_mod_of_full_turn {n i a b : Nat} (hi : i < n) (h : a + b = i + n) : (a % n + b) % n = i := by
  rw [Nat.mod_add_mod, h, Nat.add_mod_right, Nat.mod_eq_of_lt hi]

/-- `rotl_n` undoes `rotr_n` by the same amount (R12). -/
theorem rotl_rotr {n : Nat} (x : BitVec n) {r : Nat} (hr : r < n) : rotl (rotr x r) r = x := by
  have hn : 0 < n := by omega
  apply BitVec.eq_of_getLsbD_eq
  intro j hj
  have hback : ((j + (n - r) % n) % n + r) % n = j := by
    rw [Nat.add_mod_mod]
    exact mod_add_mod_of_full_turn hj (by omega)
  rw [rotl, getLsbD_rotr _ (Nat.mod_lt _ hn) hj, getLsbD_rotr x hr (Nat.mod_lt _ hn), hback]

/-- Settles O45: bit `(i + n - r) mod n` of the rotated word comes from bit `i` by `getLsbD_rotr`. -/
theorem rotationMovesEachBit : Obligations.RotationMovesEachBit := by
  unfold Obligations.RotationMovesEachBit
  intro n x r hr
  refine ⟨fun i hi => ?_, rotl_rotr x hr⟩
  rw [getLsbD_rotr x hr (Nat.mod_lt _ (by omega)), mod_add_mod_of_full_turn hi (by omega)]

/-! ## The length counter (R9, R104, R110, R266) -/

/-- `total_length` after ABSORB is the exact sum when that fits in 64 bits (R104). -/
theorem tigerAbsorbed_totalLength_toNat (S : Sbox) (C : TigerCtx) (arg : Bytes)
    (h : C.totalLength.toNat + arg.length < 2 ^ 64) :
    (tigerAbsorbed S C arg).totalLength.toNat = C.totalLength.toNat + arg.length := by
  have harg : arg.length < 2 ^ 64 := by omega
  rw [tigerAbsorbed, BitVec.toNat_add, BitVec.toNat_ofNat, Nat.mod_eq_of_lt harg, Nat.mod_eq_of_lt h]

/-- ABSORB raises INPUT_TOO_LARGE on an initialised context past the limit, and only there (R266, R270). -/
theorem tigerAbsorb_eq_inputTooLarge {S : Sbox} {limit : Nat} {C : TigerCtx} {arg : Bytes} :
    tigerAbsorb S limit C arg = .error .inputTooLarge ↔
      C.phase ≠ .uninit ∧ limit < C.totalLength.toNat + arg.length := by
  unfold tigerAbsorb requireInit requireWithin
  by_cases hphase : C.phase = .uninit
  · simp [hphase]
  by_cases hwithin : C.totalLength.toNat + arg.length ≤ limit
  · simp [hphase, hwithin]
  · simp [hphase, hwithin, Nat.lt_of_not_le hwithin]

/-- The length field as a number (R110). -/
theorem tigerLengthField_toNat (C : TigerCtx) : (tigerLengthField C).toNat = 8 * C.totalLength.toNat % 2 ^ 64 := by
  rw [tigerLengthField, BitVec.toNat_mul]
  rfl

/-- Settles O46: a limit of at most 2^64 - 1 keeps every sum that ABSORB accepts within 64 bits. -/
theorem lengthCounterNeverWraps : Obligations.LengthCounterNeverWraps := by
  unfold Obligations.LengthCounterNeverWraps
  intro S limit C arg hlimit
  refine ⟨fun D res h => ?_, tigerAbsorb_eq_inputTooLarge, tigerLengthField_toNat C⟩
  obtain ⟨-, hwithin, rfl, -⟩ := tigerAbsorb_eq_ok.mp h
  have hexact := tigerAbsorbed_totalLength_toNat S C arg (by omega)
  exact ⟨hexact, hexact.trans_le hwithin⟩

end Sys2Proof.Machine
end

section
/-! The commands in one form: each is a body that maps the context of its own engine, ended by `State.settle`. What
holds of every body holds of every command, so the statements of this family are proved of the bodies. -/

namespace Sys2Proof.Machine

/-! ## The context of an engine (R20, R30) -/

/-- The type of the context of an engine. -/
@[reducible] def EngineCtx : Engine → Type
  | .tiger => TigerCtx
  | .tiger2 => TigerCtx
  | .rg32 => RGCtx 32
  | .rg64 => RGCtx 64

/-- The phase of an engine's context. -/
def EngineCtx.phase : {e : Engine} → EngineCtx e → Phase
  | .tiger, C => TigerCtx.phase C
  | .tiger2, C => TigerCtx.phase C
  | .rg32, C => RGCtx.phase C
  | .rg64, C => RGCtx.phase C

/-- The invariant of an engine's context. -/
def EngineCtx.Inv : {e : Engine} → EngineCtx e → Prop
  | .tiger, C => TigerCtx.Inv C
  | .tiger2, C => TigerCtx.Inv C
  | .rg32, C => RGCtx.Inv C
  | .rg64, C => RGCtx.Inv C

/-- `ctx[e]`. -/
def State.ctxOf (s : State) : (e : Engine) → EngineCtx e
  | .tiger => s.tiger
  | .tiger2 => s.tiger2
  | .rg32 => s.rg32
  | .rg64 => s.rg64

/-- `ctx[e] <- C`. -/
def State.putCtx (s : State) : (e : Engine) → EngineCtx e → State
  | .tiger, C => s.setTiger C
  | .tiger2, C => s.setTiger2 C
  | .rg32, C => s.setRg32 C
  | .rg64, C => s.setRg64 C

theorem State.phaseOf_eq (s : State) (e : Engine) : s.phaseOf e = (s.ctxOf e).phase := by
  cases e <;> rfl

theorem State.sameCtx_iff (s t : State) (e : Engine) : s.sameCtx t e ↔ t.ctxOf e = s.ctxOf e := by
  cases e <;> rfl

theorem State.inv_iff (s : State) :
    s.Inv ↔ (∀ e, (s.ctxOf e).Inv) ∧ s.status ≠ 7 ∧ ∀ r ∈ s.response, r.status = s.status := by
  constructor
  · rintro ⟨htiger, htiger2, hrg32, hrg64, hrest⟩
    refine ⟨fun e => ?_, hrest⟩
    cases e with
    | tiger => exact htiger
    | tiger2 => exact htiger2
    | rg32 => exact hrg32
    | rg64 => exact hrg64
  · rintro ⟨hctx, hrest⟩
    exact ⟨hctx .tiger, hctx .tiger2, hctx .rg32, hctx .rg64, hrest⟩

section
variable (s : State) (e : Engine) (C : EngineCtx e)

@[simp] theorem State.ctxOf_respond (st : Status) (res : Bytes) : (s.respond st res).ctxOf e = s.ctxOf e := by
  cases e <;> rfl
@[simp] theorem State.ctxOf_complete (res : Bytes) : (s.complete res).ctxOf e = s.ctxOf e := s.ctxOf_respond e .ok res
@[simp] theorem State.ctxOf_raise (st : Status) : (s.raise st).ctxOf e = s.ctxOf e := s.ctxOf_respond e st []
@[simp] theorem State.ctxOf_take (rest : List Command) : (s.take rest).ctxOf e = s.ctxOf e := by cases e <;> rfl
@[simp] theorem State.ctxOf_putCtx : (s.putCtx e C).ctxOf e = C := by cases e <;> rfl
@[simp] theorem State.putCtx_ctxOf : s.putCtx e (s.ctxOf e) = s := by cases e <;> rfl
@[simp] theorem State.putCtx_pending : (s.putCtx e C).pending = s.pending := by cases e <;> rfl
@[simp] theorem State.putCtx_index : (s.putCtx e C).index = s.index := by cases e <;> rfl

/-- Writing the context of one engine leaves that of another (R30). -/
theorem State.ctxOf_putCtx_of_ne {e' : Engine} (h : e' ≠ e) : (s.putCtx e C).ctxOf e' = s.ctxOf e' := by
  cases e <;> cases e' <;> trivial

/-- Raising a fault twice in a row is raising it once. -/
@[simp] theorem State.raise_raise (st : Status) : (s.raise st).raise st = s.raise st := rfl

end

/-! ## The faults of the checks (R270) -/

section
variable {α : Type} {b : Except Status α} {st : Status}

@[simp] theorem requireLength_eq_error {n : Nat} {arg : Bytes} :
    requireLength n arg b = .error st ↔ arg.length ≠ n ∧ st = .operandLength ∨ arg.length = n ∧ b = .error st := by
  unfold requireLength; split <;> simp_all [eq_comm]

@[simp] theorem requireInit_eq_error {ph : Phase} :
    requireInit ph b = .error st ↔ ph = .uninit ∧ st = .notInitialized ∨ ph ≠ .uninit ∧ b = .error st := by
  unfold requireInit; split <;> simp_all [eq_comm]

@[simp] theorem requireOutlen_eq_error {n outlen : Nat} :
    requireOutlen n outlen b = .error st ↔ outlen ≠ n ∧ st = .sizeMismatch ∨ outlen = n ∧ b = .error st := by
  unfold requireOutlen; split <;> simp_all [eq_comm]

@[simp] theorem requireWithin_eq_error {limit total n : Nat} :
    requireWithin limit total n b = .error st ↔
      limit < total + n ∧ st = .inputTooLarge ∨ total + n ≤ limit ∧ b = .error st := by
  unfold requireWithin
  split
  · next h => simp [h, Nat.not_lt.mpr h]
  · next h => simp [h, Nat.lt_of_not_le h, eq_comm]

@[simp] theorem requireImage_eq_error {v : Bool} :
    requireImage v b = .error st ↔ v = false ∧ st = .badContext ∨ v = true ∧ b = .error st := by
  unfold requireImage; split <;> simp_all [eq_comm]

end

/-! ## The body of a command -/

/-- The body of a pure command (R75): it gives back the context it found beside its result. -/
def keeping {κ : Type} (C : κ) (r : Except Status Bytes) : Except Status (κ × Bytes) := r.map fun res => (C, res)

@[simp] theorem keeping_eq_ok {κ : Type} {C D : κ} {r : Except Status Bytes} {res : Bytes} :
    keeping C r = .ok (D, res) ↔ D = C ∧ r = .ok res := by
  cases r <;> simp [keeping, Except.map, eq_comm]

@[simp] theorem keeping_eq_error {κ : Type} {C : κ} {r : Except Status Bytes} {st : Status} :
    keeping C r = .error st ↔ r = .error st := by
  cases r <;> simp [keeping, Except.map]

/-- The body of a Tiger engine's operation. BLANK names no command here (R81). -/
def tigerBody (e : Engine) (op : Op) (arg : Bytes) (outlen : Nat) (C : TigerCtx) : Except Status (TigerCtx × Bytes) :=
  match op with
  | .init => tigerInit arg
  | .absorb => tigerAbsorb tigerSbox Config.tigerLengthLimit C arg
  | .finalize => tigerFinalize tigerSbox e C arg outlen
  | .transform => keeping C (tigerCompressCmd tigerSbox arg)
  | .blank => .error .illegalCommand
  | .save => tigerSave e C arg
  | .load => tigerLoad Config.tigerLengthLimit e arg

/-- The body of a RadioGatun engine's operation. -/
def rgBody {W : Nat} (e : Engine) (op : Op) (arg : Bytes) (outlen : Nat) (C : RGCtx W) :
    Except Status (RGCtx W × Bytes) :=
  match op with
  | .init => rgInit W arg
  | .absorb => rgAbsorb C arg
  | .finalize => rgFinalize e C arg outlen
  | .transform => keeping C (rgRoundCmd W arg)
  | .blank => keeping C (rgBlankCmd W arg)
  | .save => rgSave e C arg
  | .load => rgLoad W e arg

/-- The body of an operation on any engine. -/
def engineBody (op : Op) : (e : Engine) → Bytes → Nat → EngineCtx e → Except Status (EngineCtx e × Bytes)
  | .tiger => tigerBody .tiger op
  | .tiger2 => tigerBody .tiger2 op
  | .rg32 => rgBody .rg32 op
  | .rg64 => rgBody .rg64 op

/-- The body of a command. -/
def commandBody (i : Instr) : EngineCtx (opEngine i).2 → Except Status (EngineCtx (opEngine i).2 × Bytes) :=
  engineBody (opEngine i).1 (opEngine i).2 i.arg i.outlen

/-- A pure command ends as one that writes back the context it found. -/
theorem answer_eq_settle_keeping (s : State) (e : Engine) (r : Except Status Bytes) :
    s.answer r = s.settle (s.putCtx e) (keeping (s.ctxOf e) r) := by
  cases r with
  | error st => rfl
  | ok res => simp [keeping, Except.map]

/-- Every command is its body on its own engine's context: the one place where `exec` is taken apart. -/
theorem exec_eq_settle (i : Instr) (s : State) :
    exec i s = s.settle (s.putCtx (opEngine i).2) (commandBody i (s.ctxOf (opEngine i).2)) := by
  cases i with
  | tigerCompress arg n => exact answer_eq_settle_keeping s .tiger _
  | tiger2Compress arg n => exact answer_eq_settle_keeping s .tiger2 _
  | rg32Round arg n | rg32Blank arg n => exact answer_eq_settle_keeping s .rg32 _
  | rg64Round arg n | rg64Blank arg n => exact answer_eq_settle_keeping s .rg64 _
  | _ => rfl

theorem exec_of_body_ok {i : Instr} {s : State} {C : EngineCtx (opEngine i).2} {res : Bytes}
    (h : commandBody i (s.ctxOf (opEngine i).2) = .ok (C, res)) :
    exec i s = .next ((s.putCtx (opEngine i).2 C).complete res) := by
  rw [exec_eq_settle, h, settle_ok]

theorem exec_of_body_error {i : Instr} {s : State} {st : Status}
    (h : commandBody i (s.ctxOf (opEngine i).2) = .error st) : exec i s = .next (s.raise st) := by
  rw [exec_eq_settle, h, settle_error]

/-- All that a command can do: write its body's context and complete, or raise its body's fault. -/
theorem exec_cases {i : Instr} {s t : State} (h : exec i s = .next t) :
    (∃ C res, commandBody i (s.ctxOf (opEngine i).2) = .ok (C, res) ∧ t = (s.putCtx (opEngine i).2 C).complete res)
      ∨ ∃ st, commandBody i (s.ctxOf (opEngine i).2) = .error st ∧ t = s.raise st :=
  settle_cases (exec_eq_settle i s ▸ h)

/-- Every command completes and leaves the host's queue and index (R22, R269). -/
theorem exec_completes (i : Instr) (s : State) :
    ∃ t, exec i s = .next t ∧ t.pending = s.pending ∧ t.index = s.index := by
  cases hbody : commandBody i (s.ctxOf (opEngine i).2) with
  | ok r => exact ⟨_, exec_of_body_ok hbody, by simp, by simp⟩
  | error st => exact ⟨_, exec_of_body_error hbody, by simp, by simp⟩

end Sys2Proof.Machine
end

section
/-! The context images (R112, R236): what LOAD reads from each field of an image that SAVE wrote, which images LOAD
accepts, and that the two are inverse on an initialised context. -/

namespace Sys2Proof.Machine

/-! ## The header, the same for all engines -/

/-- The first eight bytes of an image. -/
def imageHeader (ph : Phase) (fill : Nat) (e : Engine) : Bytes :=
  [phaseCode ph, BitVec.ofNat 8 fill, engineByte e] ++ zeros 5

section
variable (ph : Phase) (fill : Nat) (e : Engine) (t : Bytes)

@[simp] theorem length_imageHeader : (imageHeader ph fill e).length = 8 := rfl

theorem imageFill_imageHeader (h : fill < 256) : imageFill (imageHeader ph fill e ++ t) = fill := by
  have hbyte : imageFill (imageHeader ph fill e ++ t) = (BitVec.ofNat 8 fill).toNat := rfl
  rw [hbyte, BitVec.toNat_ofNat, Nat.mod_eq_of_lt h]

end

/-- The bytes that stand after the first `o` and before a rest. -/
theorem slice_append_middle (s m t : Bytes) (o : Nat) (h : s.length = o) :
    slice (s ++ (m ++ t)) o (o + m.length) = m := by
  subst h
  simp [slice]

@[simp] theorem slice_self (s : Bytes) (o : Nat) : slice s o o = [] := by simp [slice]

/-! ## The phase LOAD reads from the first byte of an image (R24) -/

theorem loadedPhase_eq_ready {b : Byte} : (if b = 1 then Phase.ready else .accum) = .ready ↔ b = 1 := by
  split <;> simp_all

theorem loadedPhase_eq_accum {b : Byte} : (if b = 1 then Phase.ready else .accum) = .accum ↔ b ≠ 1 := by
  split <;> simp_all

/-- LOAD restores the phase SAVE wrote. -/
theorem loadedPhase_phaseCode {ph : Phase} (h : ph ≠ .uninit) :
    (if phaseCode ph = 1 then Phase.ready else .accum) = ph := by
  cases ph with
  | uninit => exact absurd rfl h
  | ready => rfl
  | accum => rfl

/-! ## Tiger -/

theorem tigerImage_eq (e : Engine) (C : TigerCtx) :
    tigerImage e C = imageHeader C.phase C.pb.length e
      ++ (chainBytes C.cv ++ (leStore C.totalLength ++ (C.pb ++ zeros (64 - C.pb.length)))) := by
  simp only [tigerImage, imageHeader, List.append_assoc]

theorem length_tigerImage (e : Engine) {C : TigerCtx} (h : C.pb.length < 64) : (tigerImage e C).length = 104 := by
  simp only [tigerImage_eq, List.length_append, length_imageHeader, length_chainBytes, length_leStore, length_zeros]
  omega

theorem imageFill_tigerImage (e : Engine) {C : TigerCtx} (h : C.pb.length < 64) :
    imageFill (tigerImage e C) = C.pb.length := by
  rw [tigerImage_eq, imageFill_imageHeader _ _ _ _ (by omega)]

theorem chainAt_tigerImage (e : Engine) (C : TigerCtx) : chainAt (tigerImage e C) 8 = C.cv := by
  rw [tigerImage_eq, chainAt_chainBytes _ _ _ _ (length_imageHeader _ _ _)]

theorem tigerImageLength_tigerImage (e : Engine) (C : TigerCtx) : tigerImageLength (tigerImage e C) = C.totalLength := by
  rw [tigerImageLength, tigerImage_eq, ← List.append_assoc]
  exact leLoad_at (by norm_num) _ _ _ _ (by simp)

theorem slice_tigerImage (e : Engine) (C : TigerCtx) : slice (tigerImage e C) 40 (40 + C.pb.length) = C.pb := by
  have hfront : tigerImage e C = (imageHeader C.phase C.pb.length e ++ chainBytes C.cv ++ leStore C.totalLength)
      ++ (C.pb ++ zeros (64 - C.pb.length)) := by simp only [tigerImage_eq, List.append_assoc]
  rw [hfront, slice_append_middle _ _ _ 40 (by simp)]

/-- The image SAVE writes stands for the context it was written from (R112, R114). -/
theorem tigerImageCtx_tigerImage (e : Engine) {C : TigerCtx} (hfill : C.pb.length < 64) (hphase : C.phase ≠ .uninit) :
    tigerImageCtx (tigerImage e C) = C := by
  have hcode : (tigerImage e C).getD 0 0 = phaseCode C.phase := rfl
  simp only [tigerImageCtx, imageFill_tigerImage e hfill, slice_tigerImage, chainAt_tigerImage,
    tigerImageLength_tigerImage, hcode, loadedPhase_phaseCode hphase]

/-- LOAD's checks of a Tiger image as propositions (R114). -/
theorem tigerImageValid_iff {limit : Nat} {e : Engine} {img : Bytes} :
    tigerImageValid limit e img = true ↔
      (img.getD 0 0 = 1 ∨ img.getD 0 0 = 2) ∧ imageFill img < 64 ∧ img.getD 2 0 = engineByte e
        ∧ slice img 3 8 = zeros 5 ∧ (tigerImageLength img).toNat % 64 = imageFill img
        ∧ (tigerImageLength img).toNat ≤ limit ∧ (img.getD 0 0 = 2 → (tigerImageLength img).toNat ≠ 0)
        ∧ (img.getD 0 0 = 1 → (tigerImageLength img).toNat = 0 ∧ chainAt img 8 = tigerIV) := by
  unfold tigerImageValid
  simp only [Bool.and_eq_true, Bool.or_eq_true, beq_iff_eq, Bool.not_eq_true', decide_eq_false_iff_not, not_le, not_lt,
    Bool.and_eq_false_iff, beq_eq_false_iff_ne, Bool.or_eq_false_iff, bne_eq_false_iff_eq, and_assoc, imp_iff_not_or,
    ne_eq]

/-- LOAD accepts the image of every initialised context within the limit. -/
theorem tigerImageValid_tigerImage {limit : Nat} (e : Engine) {C : TigerCtx} (hInv : C.Inv) (hphase : C.phase ≠ .uninit)
    (hlimit : C.totalLength.toNat ≤ limit) : tigerImageValid limit e (tigerImage e C) = true := by
  obtain ⟨hfill, hready, haccum⟩ := hInv
  have hcode : (tigerImage e C).getD 0 0 = phaseCode C.phase := rfl
  rw [tigerImageValid_iff, hcode, imageFill_tigerImage e hfill, tigerImageLength_tigerImage, chainAt_tigerImage]
  cases hph : C.phase with
  | uninit => exact absurd hph hphase
  | ready =>
    obtain rfl := hready hph
    exact ⟨.inl rfl, hfill, rfl, rfl, rfl, hlimit, by decide, fun _ => ⟨rfl, rfl⟩⟩
  | accum =>
    obtain ⟨hpos, hmod⟩ := haccum hph
    exact ⟨.inr rfl, hfill, rfl, rfl, hmod.symm, hlimit, fun _ => by omega,
      fun h => absurd h (by decide : phaseCode .accum ≠ 1)⟩

/-- LOAD undoes SAVE (R112, R114). -/
theorem tigerLoad_tigerImage {limit : Nat} (e : Engine) {C : TigerCtx} (hInv : C.Inv) (hphase : C.phase ≠ .uninit)
    (hlimit : C.totalLength.toNat ≤ limit) : tigerLoad limit e (tigerImage e C) = .ok (C, []) :=
  tigerLoad_eq_ok.mpr ⟨length_tigerImage e hInv.1, tigerImageValid_tigerImage e hInv hphase hlimit,
    (tigerImageCtx_tigerImage e hInv.1 hphase).symm, rfl⟩

/-- A context that LOAD accepts meets the invariant: the checks of R114 are the invariant of R29. -/
theorem tigerImageCtx_inv {limit : Nat} {e : Engine} {img : Bytes} (hlen : img.length = 104)
    (hvalid : tigerImageValid limit e img = true) : (tigerImageCtx img).Inv := by
  obtain ⟨hph, hfill, -, -, hmod, -, hpos, hinit⟩ := tigerImageValid_iff.mp hvalid
  have hpb : (tigerImageCtx img).pb.length = imageFill img := by
    rw [tigerImageCtx, length_slice, hlen]
    omega
  refine ⟨hpb.trans_lt hfill, fun hready => ?ready, fun haccum => ?accum⟩
  case ready =>
    have hcode : img.getD 0 0 = 1 := loadedPhase_eq_ready.mp hready
    obtain ⟨htl, hcv⟩ := hinit hcode
    have hzero : tigerImageLength img = 0 := BitVec.eq_of_toNat_eq htl
    have hempty : imageFill img = 0 := by omega
    simp only [tigerImageCtx, tigerInitCtx, hcode, hempty, hcv, hzero, if_true, Nat.add_zero, slice_self]
  case accum =>
    have hcode : img.getD 0 0 = 2 := hph.resolve_left (loadedPhase_eq_accum.mp haccum)
    exact ⟨Nat.one_le_iff_ne_zero.mpr (hpos hcode), hpb.trans hmod.symm⟩

/-! ## RadioGatun -/

section
variable {W : Nat} {e : Engine} {C : RGCtx W}

theorem rgImage_eq (e : Engine) (C : RGCtx W) :
    rgImage e C = imageHeader C.phase C.pb.length e
      ++ (millBeltBytes C.millBelt ++ (C.pb ++ zeros (rgCap W - C.pb.length))) := by
  simp only [rgImage, imageHeader, List.append_assoc]

theorem length_rgImage (e : Engine) (h : C.pb.length < rgCap W) : (rgImage e C).length = rgImageBytes W := by
  simp only [rgImage_eq, rgImageBytes, List.length_append, length_imageHeader, length_millBeltBytes, length_zeros]
  omega

theorem imageFill_rgImage (e : Engine) (h : C.pb.length < 256) : imageFill (rgImage e C) = C.pb.length := by
  rw [rgImage_eq, imageFill_imageHeader _ _ _ _ h]

theorem millBeltAt_rgImage (hW : 8 ∣ W) (e : Engine) (C : RGCtx W) : millBeltAt W (rgImage e C) 8 = C.millBelt := by
  rw [rgImage_eq, millBeltAt_millBeltBytes hW _ _ _ _ (length_imageHeader _ _ _)]

theorem slice_rgImage (e : Engine) (C : RGCtx W) :
    slice (rgImage e C) (8 + 58 * rgWordBytes W) (8 + 58 * rgWordBytes W + C.pb.length) = C.pb := by
  rw [rgImage_eq, ← List.append_assoc, slice_append_middle _ _ _ _ (by simp)]

/-- The image SAVE writes stands for the context it was written from (R236, R238). -/
theorem rgImageCtx_rgImage (hW : 8 ∣ W) (e : Engine) (hfill : C.pb.length < 256) (hphase : C.phase ≠ .uninit) :
    rgImageCtx W (rgImage e C) = C := by
  have hcode : (rgImage e C).getD 0 0 = phaseCode C.phase := rfl
  simp only [rgImageCtx, imageFill_rgImage e hfill, slice_rgImage, millBeltAt_rgImage hW, hcode,
    loadedPhase_phaseCode hphase, RGCtx.millBelt]

/-- LOAD's checks of a RadioGatun image as propositions (R238). -/
theorem rgImageValid_iff {img : Bytes} :
    rgImageValid W e img = true ↔
      (img.getD 0 0 = 1 ∨ img.getD 0 0 = 2) ∧ imageFill img < rgCap W ∧ img.getD 2 0 = engineByte e
        ∧ slice img 3 8 = zeros 5
        ∧ (img.getD 0 0 = 1 → imageFill img = 0 ∧ millBeltAt W img 8 = millBeltZero W) := by
  unfold rgImageValid
  simp only [Bool.and_eq_true, Bool.or_eq_true, beq_iff_eq, Bool.not_eq_true', decide_eq_false_iff_not, not_le,
    Bool.and_eq_false_iff, beq_eq_false_iff_ne, Bool.or_eq_false_iff, bne_eq_false_iff_eq, and_assoc, imp_iff_not_or,
    ne_eq]

/-- LOAD accepts the image of every initialised context whose fill fits the fill byte. -/
theorem rgImageValid_rgImage (hW : 8 ∣ W) (hcap : rgCap W ≤ 256) (e : Engine) (hInv : C.Inv)
    (hphase : C.phase ≠ .uninit) : rgImageValid W e (rgImage e C) = true := by
  obtain ⟨hfill, hready⟩ := hInv
  have hcode : (rgImage e C).getD 0 0 = phaseCode C.phase := rfl
  rw [rgImageValid_iff, hcode, imageFill_rgImage e (by omega), millBeltAt_rgImage hW]
  cases hph : C.phase with
  | uninit => exact absurd hph hphase
  | ready =>
    obtain rfl := hready hph
    exact ⟨.inl rfl, hfill, rfl, rfl, fun _ => ⟨rfl, rfl⟩⟩
  | accum => exact ⟨.inr rfl, hfill, rfl, rfl, fun h => absurd h (by decide : phaseCode .accum ≠ 1)⟩

/-- LOAD undoes SAVE (R236, R238). -/
theorem rgLoad_rgImage (hW : 8 ∣ W) (hcap : rgCap W ≤ 256) (e : Engine) (hInv : C.Inv) (hphase : C.phase ≠ .uninit) :
    rgLoad W e (rgImage e C) = .ok (C, []) :=
  rgLoad_eq_ok.mpr ⟨length_rgImage e hInv.1, rgImageValid_rgImage hW hcap e hInv hphase,
    (rgImageCtx_rgImage hW e (hInv.1.trans_le hcap) hphase).symm, rfl⟩

/-- A context that LOAD accepts meets the invariant: the checks of R238 are the invariant of R29. -/
theorem rgImageCtx_inv {img : Bytes} (hlen : img.length = rgImageBytes W) (hvalid : rgImageValid W e img = true) :
    (rgImageCtx W img).Inv := by
  obtain ⟨-, hfill, -, -, hinit⟩ := rgImageValid_iff.mp hvalid
  have hpb : (rgImageCtx W img).pb.length = imageFill img := by
    rw [rgImageCtx, length_slice, hlen, rgImageBytes]
    omega
  refine ⟨hpb.trans_lt hfill, fun hready => ?_⟩
  have hcode : img.getD 0 0 = 1 := loadedPhase_eq_ready.mp hready
  obtain ⟨hempty, hzero⟩ := hinit hcode
  simp only [rgImageCtx, rgInitCtx, hcode, hempty, hzero, millBeltZero, if_true, Nat.add_zero, slice_self]

end

/-! ## SAVE, then LOAD -/

/-- Settles O28: `tigerLoad_tigerImage` on either engine; the default limit holds every 64-bit length. -/
theorem tigerLoadOfSaveIsTheIdentity : Obligations.TigerLoadOfSaveIsTheIdentity := by
  unfold Obligations.TigerLoadOfSaveIsTheIdentity
  have hlimit (C : TigerCtx) : C.totalLength.toNat ≤ Config.tigerLengthLimit := Nat.le_pred_of_lt C.totalLength.isLt
  constructor
  · intro s u n m hInv hphase
    exact ⟨tigerImage .tiger s.tiger, exec_of_body_ok (tigerSave_eq_ok.mpr ⟨rfl, hphase, rfl, rfl⟩),
      exec_of_body_ok (tigerLoad_tigerImage .tiger hInv hphase (hlimit _))⟩
  · intro s u n m hInv hphase
    exact ⟨tigerImage .tiger2 s.tiger2, exec_of_body_ok (tigerSave_eq_ok.mpr ⟨rfl, hphase, rfl, rfl⟩),
      exec_of_body_ok (tigerLoad_tigerImage .tiger2 hInv hphase (hlimit _))⟩

/-- Settles O29: `rgLoad_rgImage` at the two word lengths. -/
theorem radioGatunLoadOfSaveIsTheIdentity : Obligations.RadioGatunLoadOfSaveIsTheIdentity := by
  unfold Obligations.RadioGatunLoadOfSaveIsTheIdentity
  constructor
  · intro s u n m hInv hphase
    exact ⟨rgImage .rg32 s.rg32, exec_of_body_ok (rgSave_eq_ok.mpr ⟨rfl, hphase, rfl, rfl⟩),
      exec_of_body_ok (rgLoad_rgImage (by norm_num) (by decide) .rg32 hInv hphase)⟩
  · intro s u n m hInv hphase
    exact ⟨rgImage .rg64 s.rg64, exec_of_body_ok (rgSave_eq_ok.mpr ⟨rfl, hphase, rfl, rfl⟩),
      exec_of_body_ok (rgLoad_rgImage (by norm_num) (by decide) .rg64 hInv hphase)⟩

end Sys2Proof.Machine
end

section
/-! What the bodies share: the invariant and the phases they keep (R24, R29), the faults they raise (R270), and that the
idempotent ones (R53) answer the same when run again. Each fact is proved of the Tiger body and of the RadioGatun body by
the operation, then taken together over the four engines. -/

namespace Sys2Proof.Machine

/-! ## ABSORB's context -/

section
variable {W : Nat}

theorem tigerAbsorbed_nil (S : Sbox) (C : TigerCtx) : tigerAbsorbed S C [] = C := by
  simp [tigerAbsorbed]

theorem rgAbsorbed_nil (C : RGCtx W) : rgAbsorbed C [] = C := rfl

/-- The phase after ABSORB, in the form of the table of R24. -/
theorem absorbedPhase_eq (arg : Bytes) (ph : Phase) :
    (if 0 < arg.length then Phase.accum else ph) = if arg.length = 0 then ph else .accum := by
  cases arg with
  | nil => rfl
  | cons x arg => rfl

/-- ABSORB keeps `fill = total_length mod 64`, as long as the length counter does not wrap (R26, R104). -/
theorem tigerAbsorbed_inv (S : Sbox) {C : TigerCtx} (arg : Bytes) (hInv : C.Inv) (hphase : C.phase ≠ .uninit)
    (hlimit : C.totalLength.toNat + arg.length < 2 ^ 64) : (tigerAbsorbed S C arg).Inv := by
  cases arg with
  | nil => rwa [tigerAbsorbed_nil]
  | cons x tail =>
    obtain ⟨hfill, hready, haccum⟩ := hInv
    have hmod : C.pb.length = C.totalLength.toNat % 64 := by
      cases hph : C.phase with
      | uninit => exact absurd hph hphase
      | ready => rw [hready hph]; rfl
      | accum => exact (haccum hph).2
    have htotal := tigerAbsorbed_totalLength_toNat S C _ hlimit
    have hlen : (tigerAbsorbed S C (x :: tail)).pb.length = (C.pb.length + (x :: tail).length) % 64 :=
      tigerTakeBytes_length S (C.cv, C.pb) _ hfill
    have hnew : (tigerAbsorbed S C (x :: tail)).phase = .accum := by simp [tigerAbsorbed]
    refine ⟨by omega, fun h => by simp [hnew] at h, fun _ => ?_⟩
    rw [htotal, hlen, List.length_cons]
    omega

/-- ABSORB keeps a RadioGatun context's bound on its pending bytes (R28, R222). -/
theorem rgAbsorbed_inv {C : RGCtx W} (arg : Bytes) (hInv : C.Inv) : (rgAbsorbed C arg).Inv := by
  cases arg with
  | nil => rwa [rgAbsorbed_nil]
  | cons x tail =>
    have hfill := hInv.1
    have hlen : (rgAbsorbed C (x :: tail)).pb.length = (C.pb.length + (x :: tail).length) % rgCap W :=
      rgTakeBytes_length (C.millBelt, C.pb) _ hfill
    have hnew : (rgAbsorbed C (x :: tail)).phase = .accum := by simp [rgAbsorbed]
    exact ⟨hlen.trans_lt (Nat.mod_lt _ (by omega)), fun h => by simp [hnew] at h⟩

theorem tigerInitCtx_inv : tigerInitCtx.Inv := ⟨by decide, fun _ => rfl, fun h => nomatch h⟩

theorem rgInitCtx_inv (h : 0 < rgCap W) : (rgInitCtx W).Inv := ⟨h, fun _ => rfl⟩

end

/-! ## The invariant (R29) -/

theorem tigerBody_inv {e : Engine} {op : Op} {arg res : Bytes} {n : Nat} {C D : TigerCtx} (hInv : C.Inv)
    (h : tigerBody e op arg n C = .ok (D, res)) : D.Inv := by
  cases op with
  | init =>
    obtain ⟨-, rfl, -⟩ := tigerInit_eq_ok.mp h
    exact tigerInitCtx_inv
  | absorb =>
    obtain ⟨hphase, hwithin, rfl, -⟩ := tigerAbsorb_eq_ok.mp h
    exact tigerAbsorbed_inv _ arg hInv hphase (Nat.lt_of_le_pred (by norm_num) hwithin)
  | finalize =>
    obtain ⟨-, -, -, rfl, -⟩ := tigerFinalize_eq_ok.mp h
    exact tigerInitCtx_inv
  | transform =>
    obtain ⟨rfl, -⟩ := keeping_eq_ok.mp h
    exact hInv
  | blank => nomatch h
  | save =>
    obtain ⟨-, -, rfl, -⟩ := tigerSave_eq_ok.mp h
    exact hInv
  | load =>
    obtain ⟨hlen, hvalid, rfl, -⟩ := tigerLoad_eq_ok.mp h
    exact tigerImageCtx_inv hlen hvalid

theorem rgBody_inv {W : Nat} {e : Engine} {op : Op} {arg res : Bytes} {n : Nat} {C D : RGCtx W} (hInv : C.Inv)
    (h : rgBody e op arg n C = .ok (D, res)) : D.Inv := by
  have hcap : 0 < rgCap W := Nat.zero_lt_of_lt hInv.1
  cases op with
  | init =>
    obtain ⟨-, rfl, -⟩ := rgInit_eq_ok.mp h
    exact rgInitCtx_inv hcap
  | absorb =>
    obtain ⟨-, rfl, -⟩ := rgAbsorb_eq_ok.mp h
    exact rgAbsorbed_inv arg hInv
  | finalize =>
    obtain ⟨-, -, -, rfl, -⟩ := rgFinalize_eq_ok.mp h
    exact rgInitCtx_inv hcap
  | transform | blank =>
    obtain ⟨rfl, -⟩ := keeping_eq_ok.mp h
    exact hInv
  | save =>
    obtain ⟨-, -, rfl, -⟩ := rgSave_eq_ok.mp h
    exact hInv
  | load =>
    obtain ⟨hlen, hvalid, rfl, -⟩ := rgLoad_eq_ok.mp h
    exact rgImageCtx_inv hlen hvalid

theorem engineBody_inv {op : Op} (e : Engine) {arg res : Bytes} {n : Nat} {C D : EngineCtx e} (hInv : C.Inv)
    (h : engineBody op e arg n C = .ok (D, res)) : D.Inv := by
  cases e with
  | tiger | tiger2 => exact tigerBody_inv hInv h
  | rg32 | rg64 => exact rgBody_inv hInv h

/-! ## The phases (R24) -/

theorem tigerBody_phase {i : Instr} {e : Engine} {res : Bytes} {n : Nat} {C D : TigerCtx}
    (h : tigerBody e (opEngine i).1 i.arg n C = .ok (D, res)) : D.phase = phaseAfter i C.phase := by
  unfold phaseAfter
  generalize (opEngine i).1 = op at h ⊢
  cases op with
  | init =>
    obtain ⟨-, rfl, -⟩ := tigerInit_eq_ok.mp h
    rfl
  | absorb =>
    obtain ⟨-, -, rfl, -⟩ := tigerAbsorb_eq_ok.mp h
    exact absorbedPhase_eq i.arg C.phase
  | finalize =>
    obtain ⟨-, -, -, rfl, -⟩ := tigerFinalize_eq_ok.mp h
    rfl
  | transform =>
    obtain ⟨rfl, -⟩ := keeping_eq_ok.mp h
    rfl
  | blank => nomatch h
  | save =>
    obtain ⟨-, -, rfl, -⟩ := tigerSave_eq_ok.mp h
    rfl
  | load =>
    obtain ⟨-, -, rfl, -⟩ := tigerLoad_eq_ok.mp h
    rfl

theorem rgBody_phase {W : Nat} {i : Instr} {e : Engine} {res : Bytes} {n : Nat} {C D : RGCtx W}
    (h : rgBody e (opEngine i).1 i.arg n C = .ok (D, res)) : D.phase = phaseAfter i C.phase := by
  unfold phaseAfter
  generalize (opEngine i).1 = op at h ⊢
  cases op with
  | init =>
    obtain ⟨-, rfl, -⟩ := rgInit_eq_ok.mp h
    rfl
  | absorb =>
    obtain ⟨-, rfl, -⟩ := rgAbsorb_eq_ok.mp h
    exact absorbedPhase_eq i.arg C.phase
  | finalize =>
    obtain ⟨-, -, -, rfl, -⟩ := rgFinalize_eq_ok.mp h
    rfl
  | transform | blank =>
    obtain ⟨rfl, -⟩ := keeping_eq_ok.mp h
    rfl
  | save =>
    obtain ⟨-, -, rfl, -⟩ := rgSave_eq_ok.mp h
    rfl
  | load =>
    obtain ⟨-, -, rfl, -⟩ := rgLoad_eq_ok.mp h
    rfl

theorem engineBody_phase {i : Instr} (e : Engine) {res : Bytes} {n : Nat} {C D : EngineCtx e}
    (h : engineBody (opEngine i).1 e i.arg n C = .ok (D, res)) : D.phase = phaseAfter i C.phase := by
  cases e with
  | tiger | tiger2 => exact tigerBody_phase h
  | rg32 | rg64 => exact rgBody_phase h

/-- An operation that reads its context completes OK on an initialised one only (R261). -/
theorem engineBody_initialised {op : Op} (e : Engine) {arg res : Bytes} {n : Nat} {C D : EngineCtx e}
    (h : engineBody op e arg n C = .ok (D, res)) (hop : needsInit op = true) : C.phase ≠ .uninit := by
  cases op with
  | init | transform | blank | load => nomatch hop
  | absorb =>
    cases e with
    | tiger | tiger2 => exact (tigerAbsorb_eq_ok.mp h).1
    | rg32 | rg64 => exact (rgAbsorb_eq_ok.mp h).1
  | finalize =>
    cases e with
    | tiger | tiger2 => exact (tigerFinalize_eq_ok.mp h).2.1
    | rg32 | rg64 => exact (rgFinalize_eq_ok.mp h).2.1
  | save =>
    cases e with
    | tiger | tiger2 => exact (tigerSave_eq_ok.mp h).2.1
    | rg32 | rg64 => exact (rgSave_eq_ok.mp h).2.1

/-- The first byte of the image SAVE answers is the code of the phase (R24). -/
theorem engineBody_save_getD_zero (e : Engine) {arg res : Bytes} {n : Nat} {C D : EngineCtx e}
    (h : engineBody .save e arg n C = .ok (D, res)) : res.getD 0 0 = phaseCode C.phase := by
  cases e with
  | tiger | tiger2 =>
    obtain ⟨-, -, -, rfl⟩ := tigerSave_eq_ok.mp h
    rfl
  | rg32 | rg64 =>
    obtain ⟨-, -, -, rfl⟩ := rgSave_eq_ok.mp h
    rfl

/-! ## The faults (R261, R270) -/

/-- A fault is never OK, and NOT_INITIALIZED is the fault of the operations that read the context only: a body is a nest
of checks, and the lemmas `require…_eq_error` name the one fault of each. -/
theorem engineBody_error {op : Op} (e : Engine) {arg : Bytes} {n : Nat} {C : EngineCtx e} {st : Status}
    (h : engineBody op e arg n C = .error st) : st ≠ .ok ∧ (needsInit op = false → st ≠ .notInitialized) := by
  refine ⟨?ok, fun hop => ?notInitialized⟩
  case ok =>
    rintro rfl
    cases e with
    | tiger | tiger2 =>
      cases op <;> simp [engineBody, tigerBody, tigerInit, tigerAbsorb, tigerFinalize, tigerCompressCmd, tigerSave,
        tigerLoad] at h
    | rg32 | rg64 =>
      cases op <;> simp [engineBody, rgBody, rgInit, rgAbsorb, rgFinalize, rgRoundCmd, rgBlankCmd, rgSave, rgLoad] at h
  case notInitialized =>
    rintro rfl
    cases op with
    | absorb | finalize | save => nomatch hop
    | init => cases e <;> simp [engineBody, tigerBody, rgBody, tigerInit, rgInit] at h
    | transform => cases e <;> simp [engineBody, tigerBody, rgBody, tigerCompressCmd, rgRoundCmd] at h
    | blank => cases e <;> simp [engineBody, tigerBody, rgBody, rgBlankCmd] at h
    | load => cases e <;> simp [engineBody, tigerBody, rgBody, tigerLoad, rgLoad] at h

/-- With no operand, where none is wanted, an UNINIT context is the first cause of R270. -/
theorem requireLength_requireInit_error {α : Type} {ph : Phase} {b : Except Status α} (h : ph = .uninit) :
    requireLength 0 [] (requireInit ph b) = .error .notInitialized :=
  requireLength_eq_error.mpr (.inr ⟨rfl, requireInit_eq_error.mpr (.inl ⟨h, rfl⟩)⟩)

/-- On an UNINIT context the operations that read it raise NOT_INITIALIZED, whatever `outlen` is and whatever the data
fields hold (R34, R261). -/
theorem engineBody_uninit {op : Op} (e : Engine) {arg : Bytes} {n : Nat} {C : EngineCtx e} (hphase : C.phase = .uninit)
    (hop : op = .absorb ∨ (op = .finalize ∨ op = .save) ∧ arg = []) :
    engineBody op e arg n C = .error .notInitialized := by
  rcases hop with rfl | ⟨rfl | rfl, rfl⟩
  case inl =>
    cases e with
    | tiger | tiger2 | rg32 | rg64 => exact requireInit_eq_error.mpr (.inl ⟨hphase, rfl⟩)
  case inr.inl =>
    cases e with
    | tiger | tiger2 | rg32 | rg64 => exact requireLength_requireInit_error hphase
  case inr.inr =>
    cases e with
    | tiger | tiger2 | rg32 | rg64 => exact requireLength_requireInit_error hphase

/-! ## Running a command again (R53) -/

theorem tigerBody_again {e : Engine} {op : Op} {arg res : Bytes} {n : Nat} {C D : TigerCtx} (hfinalize : op ≠ .finalize)
    (habsorb : op = .absorb → arg = []) (h : tigerBody e op arg n C = .ok (D, res)) :
    tigerBody e op arg n D = .ok (D, res) := by
  cases op with
  | init | load => exact h
  | absorb =>
    obtain rfl := habsorb rfl
    obtain ⟨-, -, hD, -⟩ := tigerAbsorb_eq_ok.mp h
    rw [tigerAbsorbed_nil] at hD
    exact hD ▸ h
  | finalize => exact absurd rfl hfinalize
  | transform =>
    obtain ⟨rfl, -⟩ := keeping_eq_ok.mp h
    exact h
  | blank => nomatch h
  | save =>
    obtain ⟨-, -, rfl, -⟩ := tigerSave_eq_ok.mp h
    exact h

theorem rgBody_again {W : Nat} {e : Engine} {op : Op} {arg res : Bytes} {n : Nat} {C D : RGCtx W}
    (hfinalize : op ≠ .finalize) (habsorb : op = .absorb → arg = []) (h : rgBody e op arg n C = .ok (D, res)) :
    rgBody e op arg n D = .ok (D, res) := by
  cases op with
  | init | load => exact h
  | absorb =>
    obtain rfl := habsorb rfl
    obtain ⟨-, rfl, -⟩ := rgAbsorb_eq_ok.mp h
    exact h
  | finalize => exact absurd rfl hfinalize
  | transform | blank =>
    obtain ⟨rfl, -⟩ := keeping_eq_ok.mp h
    exact h
  | save =>
    obtain ⟨-, -, rfl, -⟩ := rgSave_eq_ok.mp h
    exact h

/-- An operation that is neither FINALIZE nor an ABSORB of bytes answers the same from the context it left: it keeps the
context, or it does not read it. -/
theorem engineBody_again {op : Op} (e : Engine) {arg res : Bytes} {n : Nat} {C D : EngineCtx e}
    (hfinalize : op ≠ .finalize) (habsorb : op = .absorb → arg = []) (h : engineBody op e arg n C = .ok (D, res)) :
    engineBody op e arg n D = .ok (D, res) := by
  cases e with
  | tiger | tiger2 => exact tigerBody_again hfinalize habsorb h
  | rg32 | rg64 => exact rgBody_again hfinalize habsorb h

end Sys2Proof.Machine
end

section
/-! The statements about the state of the block (10_state.md): what a step does to it, the invariant, the phases, and what
a command reads. -/

namespace Sys2Proof.Machine

/-! ## A step (R22, R55) -/

/-- A step takes the pending command and runs what it decodes to. -/
theorem step_of_decode_ok {s : State} {c : Command} {rest : List Command} {i : Instr} (hpending : s.pending = c :: rest)
    (hdecode : decode c = .ok i) : step s = exec i (s.take rest) := by
  simp only [step, hpending, hdecode]

/-- A step takes a pending command whose code is illegal and raises ILLEGAL_COMMAND (R264). -/
theorem step_of_decode_error {s : State} {c : Command} {rest : List Command} {r : IllegalCode}
    (hpending : s.pending = c :: rest) (hdecode : decode c = .error r) :
    step s = .next ((s.take rest).raise .illegalCommand) := by
  simp only [step, hpending, hdecode]

/-- All that a step can do: wait, refuse an illegal code, or run a command. -/
theorem step_cases {s t : State} (h : step s = .next t) :
    (s.pending = [] ∧ t = s) ∨ ∃ c rest, s.pending = c :: rest
      ∧ ((∃ r, decode c = .error r ∧ t = (s.take rest).raise .illegalCommand)
        ∨ ∃ i, decode c = .ok i ∧ exec i (s.take rest) = .next t) := by
  cases hpending : s.pending with
  | nil =>
    simp only [step, hpending, Host.Outcome.next.injEq] at h
    exact .inl ⟨rfl, h.symm⟩
  | cons c rest =>
    refine .inr ⟨c, rest, rfl, ?_⟩
    cases hdecode : decode c with
    | error r =>
      rw [step_of_decode_error hpending hdecode, Host.Outcome.next.injEq] at h
      exact .inl ⟨r, rfl, h.symm⟩
    | ok i =>
      rw [step_of_decode_ok hpending hdecode] at h
      exact .inr ⟨i, rfl, h⟩

/-- Settles O5: the state the command runs in is `State.take`. -/
theorem stepRunsTheDecodedCommand : Obligations.StepRunsTheDecodedCommand := by
  unfold Obligations.StepRunsTheDecodedCommand
  intro s c rest i hpending hdecode
  exact step_of_decode_ok hpending hdecode

/-- Settles O7: taking the command moves queue and index, and neither a fault nor a body touches them again. -/
theorem everyCommandAdvancesTheIndex : Obligations.EveryCommandAdvancesTheIndex := by
  unfold Obligations.EveryCommandAdvancesTheIndex
  intro s c rest hpending
  cases hdecode : decode c with
  | error r => exact ⟨_, step_of_decode_error hpending hdecode, rfl, rfl⟩
  | ok i =>
    obtain ⟨t, hexec, hqueue, hindex⟩ := exec_completes i (s.take rest)
    exact ⟨t, (step_of_decode_ok hpending hdecode).trans hexec, hindex, hqueue⟩

/-! ## The invariant (R29) -/

/-- Code 7 is never written (R31). -/
theorem statusCode_ne_seven (st : Status) : statusCode st ≠ 7 := by
  cases st <;> decide

/-- A response keeps the invariant: it writes STATUS and its own status alike (R31, R80). -/
theorem State.respond_inv {s : State} (st : Status) (res : Bytes) (hctx : ∀ e, (s.ctxOf e).Inv) :
    (s.respond st res).Inv := by
  refine (State.inv_iff _).mpr ⟨fun e => ?_, statusCode_ne_seven st, fun r hr => ?_⟩
  · rw [State.ctxOf_respond]
    exact hctx e
  · obtain rfl := Option.some.inj hr
    rfl

/-- Every command keeps the invariant of the contexts and leaves a response that meets it. -/
theorem exec_inv {i : Instr} {s t : State} (hctx : ∀ e, (s.ctxOf e).Inv) (h : exec i s = .next t) : t.Inv := by
  rcases exec_cases h with ⟨C, res, hbody, rfl⟩ | ⟨st, -, rfl⟩
  · refine State.respond_inv .ok res fun e => ?_
    by_cases he : e = (opEngine i).2
    · subst he
      rw [State.ctxOf_putCtx]
      exact engineBody_inv _ (hctx _) hbody
    · rw [State.ctxOf_putCtx_of_ne _ _ _ he]
      exact hctx e
  · exact State.respond_inv st [] hctx

/-- Settles O11: by the cases of a step; waiting changes nothing, and a fault or a command answers by `State.respond_inv`
or `exec_inv`. -/
theorem stepKeepsTheInvariant : Obligations.StepKeepsTheInvariant := by
  unfold Obligations.StepKeepsTheInvariant
  intro s t hInv h
  rcases step_cases h with ⟨-, rfl⟩ | ⟨c, rest, -, hcommand⟩
  · exact hInv
  have hctx : ∀ e, ((s.take rest).ctxOf e).Inv := by
    simpa only [State.ctxOf_take] using ((State.inv_iff s).mp hInv).1
  rcases hcommand with ⟨r, -, rfl⟩ | ⟨i, -, hexec⟩
  · exact State.respond_inv .illegalCommand [] hctx
  · exact exec_inv hctx hexec

/-! ## Reset (R34, R290) -/

/-- An UNINIT Tiger context meets the invariant as soon as its fill does. -/
theorem TigerCtx.inv_of_uninit {C : TigerCtx} (hphase : C.phase = .uninit) (hfill : C.pb.length < 64) : C.Inv :=
  ⟨hfill, fun h => by simp [hphase] at h, fun h => by simp [hphase] at h⟩

/-- An UNINIT RadioGatun context meets the invariant as soon as its fill does. -/
theorem RGCtx.inv_of_uninit {W : Nat} {C : RGCtx W} (hphase : C.phase = .uninit) (hfill : C.pb.length < rgCap W) :
    C.Inv :=
  ⟨hfill, fun h => by simp [hphase] at h⟩

/-- Settles O12: the contexts are UNINIT with empty pending blocks, STATUS is 0 and there is no response. -/
theorem resetMeetsTheInvariant : Obligations.ResetMeetsTheInvariant := by
  unfold Obligations.ResetMeetsTheInvariant
  have htiger : TigerCtx.atReset.Inv := TigerCtx.inv_of_uninit rfl (by decide)
  have hrg32 : (RGCtx.atReset 32).Inv := RGCtx.inv_of_uninit rfl (by decide)
  have hrg64 : (RGCtx.atReset 64).Inv := RGCtx.inv_of_uninit rfl (by decide)
  exact ⟨htiger, htiger, hrg32, hrg64, by decide, fun r hr => nomatch hr⟩

/-- Settles O13, engine by engine. -/
theorem resetLeavesEveryContextUninit : Obligations.ResetLeavesEveryContextUninit := by
  unfold Obligations.ResetLeavesEveryContextUninit
  refine ⟨fun e => ?_, rfl⟩
  cases e with
  | tiger | tiger2 | rg32 | rg64 => rfl

/-! ## Phases (R24, R34, R261) -/

/-- Settles O14: `engineBody_uninit` for the operations that read the context, `engineBody_error` for the others. -/
theorem uninitContextRefusesAbsorbFinalizeAndSave : Obligations.UninitContextRefusesAbsorbFinalizeAndSave := by
  unfold Obligations.UninitContextRefusesAbsorbFinalizeAndSave
  intro i s hphase
  rw [State.phaseOf_eq] at hphase
  refine ⟨fun hop => exec_of_body_error (engineBody_uninit _ hphase hop), ?_⟩
  intro t habsorb hfinalize hsave h
  have hop : needsInit (opEngine i).1 = false := by
    cases hop : (opEngine i).1 with
    | absorb => exact absurd hop habsorb
    | finalize => exact absurd hop hfinalize
    | save => exact absurd hop hsave
    | init | transform | blank | load => rfl
  rcases exec_cases h with ⟨C, res, -, rfl⟩ | ⟨st, hbody, rfl⟩
  · exact (by decide : statusCode .ok ≠ 2)
  · have hst := (engineBody_error _ hbody).2 hop
    rw [State.raise_status]
    cases st with
    | notInitialized => exact absurd rfl hst
    | ok | illegalCommand | sizeMismatch | inputTooLarge | badContext | operandLength => decide

/-- Settles O51: the body's phase when the command completes OK; a fault writes no context. -/
theorem phasesFollowTheTransitionTable : Obligations.PhasesFollowTheTransitionTable := by
  unfold Obligations.PhasesFollowTheTransitionTable
  intro i s t h
  simp only [State.phaseOf_eq]
  rcases exec_cases h with ⟨C, res, hbody, rfl⟩ | ⟨st, hbody, rfl⟩
  · refine ⟨fun _ => ⟨?phase, engineBody_initialised _ hbody, fun hsave r hr => ?code⟩, fun hfault => absurd rfl hfault⟩
    case phase =>
      rw [State.ctxOf_complete, State.ctxOf_putCtx]
      exact engineBody_phase _ hbody
    case code =>
      obtain rfl := Option.some.inj hr
      rw [commandBody, hsave] at hbody
      rw [engineBody_save_getD_zero _ hbody]
      cases (s.ctxOf (opEngine i).2).phase with
      | uninit | ready | accum => rfl
  · have hst : statusCode st ≠ 0 := fun h0 => (engineBody_error _ hbody).1 ((statusCode_eq_zero st).mp h0)
    exact ⟨fun hok => absurd hok hst, fun _ e => by rw [State.ctxOf_raise]⟩

/-! ## What a command reads (R30, R53, R55) -/

/-- Settles O48: both runs end the body of one and the same context. -/
theorem commandsReadOnlyTheirOwnContext : Obligations.CommandsReadOnlyTheirOwnContext := by
  unfold Obligations.CommandsReadOnlyTheirOwnContext
  intro i s u hsame
  rw [State.sameCtx_iff] at hsame
  simp only [State.sameCtx_iff]
  cases hbody : commandBody i (s.ctxOf (opEngine i).2) with
  | ok r =>
    refine ⟨_, _, exec_of_body_ok hbody, exec_of_body_ok (hsame.symm ▸ hbody), ?_, rfl, rfl⟩
    simp only [State.ctxOf_complete, State.ctxOf_putCtx]
  | error st =>
    refine ⟨_, _, exec_of_body_error hbody, exec_of_body_error (hsame.symm ▸ hbody), ?_, rfl, rfl⟩
    simp only [State.ctxOf_raise, hsame]

/-- Writing the context a state holds and answering as it answered changes nothing. -/
theorem State.putCtx_complete_again (s : State) (e : Engine) (C : EngineCtx e) (res : Bytes) :
    (((s.putCtx e C).complete res).putCtx e C).complete res = (s.putCtx e C).complete res := by
  cases e with
  | tiger | tiger2 | rg32 | rg64 => rfl

/-- Settles O52: the second run's body finds the context the first run left, by `engineBody_again`; a fault left the
context as it was. -/
theorem repeatingAnIdempotentCommandChangesNothing : Obligations.RepeatingAnIdempotentCommandChangesNothing := by
  unfold Obligations.RepeatingAnIdempotentCommandChangesNothing
  intro i s t hkind h
  obtain ⟨hfinalize, habsorb⟩ : (opEngine i).1 ≠ .finalize ∧ ((opEngine i).1 = .absorb → i.arg = []) := by
    rcases hkind with hop | ⟨hop, harg⟩ | hop | hop | hpure
    · simp [hop]
    · simp [hop, harg]
    · simp [hop]
    · simp [hop]
    · rcases (by simpa [isPure] using hpure : (opEngine i).1 = .transform ∨ (opEngine i).1 = .blank) with hop | hop <;>
        simp [hop]
  rcases exec_cases h with ⟨C, res, hbody, rfl⟩ | ⟨st, hbody, rfl⟩
  · have hagain : commandBody i (((s.putCtx (opEngine i).2 C).complete res).ctxOf (opEngine i).2) = .ok (C, res) := by
      rw [State.ctxOf_complete, State.ctxOf_putCtx]
      exact engineBody_again _ hfinalize habsorb hbody
    rw [exec_of_body_ok hagain, State.putCtx_complete_again]
  · have hagain : commandBody i ((s.raise st).ctxOf (opEngine i).2) = .error st := by rwa [State.ctxOf_raise]
    rw [exec_of_body_error hagain, State.raise_raise]

end Sys2Proof.Machine
end

section
/-! One engine's context at a time (R52, R55): a command writes the context of its own engine and leaves the others, so
commands on different engines commute; and absorbing on one engine is an action of byte sequences on its context, so the
split of a stream leaves no trace. -/

namespace Sys2Proof.Machine

/-! ## States that differ in one context -/

/-- `t` holds `C` as the context of `e`, and the contexts of `s` for the other engines. -/
structure State.WritesOnly (s t : State) (e : Engine) (C : EngineCtx e) : Prop where
  own : t.ctxOf e = C
  others : ∀ e' ≠ e, t.ctxOf e' = s.ctxOf e'

section
variable {s t u v w : State} {e e' : Engine} {C : EngineCtx e} {D : EngineCtx e'}

theorem State.writesOnly_putCtx_respond (s : State) (e : Engine) (C : EngineCtx e) (st : Status) (res : Bytes) :
    s.WritesOnly ((s.putCtx e C).respond st res) e C where
  own := by rw [State.ctxOf_respond, State.ctxOf_putCtx]
  others e' he := by rw [State.ctxOf_respond, State.ctxOf_putCtx_of_ne _ _ _ he]

/-- Writing back the context a state holds leaves all four. -/
theorem State.WritesOnly.sameCtxs_of_own (h : s.WritesOnly t e (s.ctxOf e)) : s.sameCtxs t := by
  intro d
  rw [State.sameCtx_iff]
  by_cases hd : d = e
  · subst hd
    exact h.own
  · exact h.others d hd

/-- Of two writes to one context the second counts. -/
theorem State.WritesOnly.trans {C' : EngineCtx e} (h : s.WritesOnly t e C) (h' : t.WritesOnly u e C') :
    s.WritesOnly u e C' where
  own := h'.own
  others d hd := (h'.others d hd).trans (h.others d hd)

/-- The same write to one state gives the same four contexts. -/
theorem State.WritesOnly.sameCtxs (ht : s.WritesOnly t e C) (hu : s.WritesOnly u e C) : t.sameCtxs u := by
  intro d
  rw [State.sameCtx_iff]
  by_cases hd : d = e
  · subst hd
    rw [hu.own, ht.own]
  · rw [hu.others d hd, ht.others d hd]

/-- Writes to two different contexts give the same four contexts in either order. -/
theorem State.WritesOnly.sameCtxs_of_ne (hne : e ≠ e') (ht : s.WritesOnly t e C) (htv : t.WritesOnly v e' D)
    (hu : s.WritesOnly u e' D) (huw : u.WritesOnly w e C) : v.sameCtxs w := by
  intro d
  rw [State.sameCtx_iff]
  by_cases hd : d = e
  · subst hd
    rw [huw.own, htv.others d hne, ht.own]
  by_cases hd' : d = e'
  · subst hd'
    rw [huw.others d hd, hu.own, htv.own]
  · rw [huw.others d hd, hu.others d hd', htv.others d hd', ht.others d hd]

end

/-! ## What a body leaves: one context and one response -/

/-- The context after a body that found `C`: its new value, or `C` itself on a fault (R263). -/
def bodyCtx {κ : Type} (C : κ) (r : Except Status (κ × Bytes)) : κ :=
  match r with
  | .ok (D, _) => D
  | .error _ => C

/-- The response to a body's end (R80). -/
def bodyResponse {κ : Type} (r : Except Status (κ × Bytes)) : Response :=
  match r with
  | .ok (_, res) => { status := statusCode .ok, res := res }
  | .error st => { status := statusCode st, res := [] }

/-- A pure command's body leaves the context it found, OK or not (R75). -/
@[simp] theorem bodyCtx_keeping {κ : Type} (C : κ) (r : Except Status Bytes) : bodyCtx C (keeping C r) = C := by
  cases r with
  | ok res => rfl
  | error st => rfl

/-- The end of a command, OK or not: it writes the context its body leaves, answers its body's response and keeps the
queue and the index. -/
theorem settle_writesOnly (s : State) (e : Engine) (r : Except Status (EngineCtx e × Bytes)) :
    ∃ t, s.settle (s.putCtx e) r = .next t ∧ s.WritesOnly t e (bodyCtx (s.ctxOf e) r)
      ∧ t.response = some (bodyResponse r) ∧ t.pending = s.pending ∧ t.index = s.index := by
  cases r with
  | ok r =>
    obtain ⟨C, res⟩ := r
    exact ⟨_, settle_ok s _ C res, s.writesOnly_putCtx_respond e C .ok res, rfl, by simp, by simp⟩
  | error st =>
    have hput := s.writesOnly_putCtx_respond e (s.ctxOf e) st []
    rw [State.putCtx_ctxOf] at hput
    exact ⟨_, settle_error s _ st, hput, rfl, rfl, rfl⟩

/-- Every command completes, writes only its own engine's context, and takes that and its response from its body. -/
theorem exec_writesOnly (i : Instr) (s : State) :
    ∃ t, exec i s = .next t
      ∧ s.WritesOnly t (opEngine i).2
          (bodyCtx (s.ctxOf (opEngine i).2) (commandBody i (s.ctxOf (opEngine i).2)))
      ∧ t.response = some (bodyResponse (commandBody i (s.ctxOf (opEngine i).2)))
      ∧ t.pending = s.pending ∧ t.index = s.index := by
  rw [exec_eq_settle]
  exact settle_writesOnly s _ _

/-- The operations of the pure commands leave the context they find (R75); BLANK on a Tiger engine is no command (R81). -/
theorem bodyCtx_engineBody_pure {op : Op} (hop : op = .transform ∨ op = .blank) (e : Engine) (arg : Bytes) (n : Nat)
    (C : EngineCtx e) : bodyCtx C (engineBody op e arg n C) = C := by
  rcases hop with rfl | rfl
  case inl =>
    cases e with
    | tiger | tiger2 | rg32 | rg64 => exact bodyCtx_keeping C _
  case inr =>
    cases e with
    | tiger | tiger2 => rfl
    | rg32 | rg64 => exact bodyCtx_keeping C _

/-- Settles O47: by `exec_writesOnly`; what a pure command writes is the context it found. -/
theorem commandsWriteOnlyTheirOwnContext : Obligations.CommandsWriteOnlyTheirOwnContext := by
  unfold Obligations.CommandsWriteOnlyTheirOwnContext
  intro i s t h
  obtain ⟨t', ht', hwrites, -, hpending, hindex⟩ := exec_writesOnly i s
  obtain rfl : t' = t := Host.Outcome.next.inj (ht'.symm.trans h)
  refine ⟨fun e he => (State.sameCtx_iff s t' e).mpr (hwrites.others e he), fun hpure => ?_, hpending, hindex⟩
  have hop : (opEngine i).1 = .transform ∨ (opEngine i).1 = .blank := by simpa [isPure] using hpure
  rw [commandBody, bodyCtx_engineBody_pure hop] at hwrites
  exact hwrites.sameCtxs_of_own

/-- Settles O49: each command finds its own context as it was before the other ran, so its body ends the same in either
order, and the two writes are to different contexts. -/
theorem differentEnginesCommute : Obligations.DifferentEnginesCommute := by
  unfold Obligations.DifferentEnginesCommute
  intro i j s hne
  obtain ⟨si, hsi, writesI, respI, -⟩ := exec_writesOnly i s
  obtain ⟨sj, hsj, writesJ, respJ, -⟩ := exec_writesOnly j s
  obtain ⟨t, ht, writesIJ, respIJ, -⟩ := exec_writesOnly j si
  obtain ⟨u, hu, writesJI, respJI, -⟩ := exec_writesOnly i sj
  rw [writesI.others _ hne.symm] at writesIJ respIJ
  rw [writesJ.others _ hne] at writesJI respJI
  exact ⟨si, sj, t, u, hsi, hsj, ht, hu, writesI.sameCtxs_of_ne hne writesIJ writesJ writesJI,
    respIJ.trans respJ.symm, respJI.trans respI.symm⟩

/-! ## ABSORB as an action of byte sequences on a context (R104, R222) -/

/-- The phase after two ABSORBs is that after one of both operands: either of them may be empty (R24). -/
theorem absorbedPhase_append (x y : Bytes) (ph : Phase) :
    (if 0 < (x ++ y).length then Phase.accum else ph)
      = if 0 < y.length then .accum else if 0 < x.length then .accum else ph := by
  cases y with
  | nil => simp
  | cons b y => simp

theorem tigerAbsorbed_append (S : Sbox) (C : TigerCtx) (x y : Bytes) :
    tigerAbsorbed S C (x ++ y) = tigerAbsorbed S (tigerAbsorbed S C x) y := by
  have htotal : C.totalLength + BitVec.ofNat 64 (x ++ y).length
      = C.totalLength + BitVec.ofNat 64 x.length + BitVec.ofNat 64 y.length := by
    rw [List.length_append, BitVec.ofNat_add, BitVec.add_assoc]
  simp only [tigerAbsorbed, tigerTakeBytes_append, htotal, absorbedPhase_append]

theorem rgAbsorbed_append {W : Nat} (C : RGCtx W) (x y : Bytes) :
    rgAbsorbed C (x ++ y) = rgAbsorbed (rgAbsorbed C x) y := by
  simp only [rgAbsorbed, rgTakeBytes_append, absorbedPhase_append, RGCtx.millBelt]

/-- The context of any engine after an ABSORB that completes OK. -/
def EngineCtx.absorbed : {e : Engine} → EngineCtx e → Bytes → EngineCtx e
  | .tiger, C, arg => tigerAbsorbed tigerSbox C arg
  | .tiger2, C, arg => tigerAbsorbed tigerSbox C arg
  | .rg32, C, arg => rgAbsorbed C arg
  | .rg64, C, arg => rgAbsorbed C arg

/-- Whether `n` more bytes stay within the length limit (R266), which only the Tiger engines have. -/
def EngineCtx.Fits : {e : Engine} → EngineCtx e → Nat → Prop
  | .tiger, C, n => (TigerCtx.totalLength C).toNat + n ≤ Config.tigerLengthLimit
  | .tiger2, C, n => (TigerCtx.totalLength C).toNat + n ≤ Config.tigerLengthLimit
  | .rg32, _, _ => True
  | .rg64, _, _ => True

section
variable {e : Engine} {C : EngineCtx e}

theorem exceedsLimit_eq_false {s : State} {e : Engine} {n : Nat} :
    s.exceedsLimit e n = false ↔ (s.ctxOf e).Fits n := by
  cases e with
  | tiger | tiger2 => exact decide_eq_false_iff_not.trans Nat.not_lt
  | rg32 | rg64 => exact iff_of_true rfl trivial

theorem EngineCtx.absorbed_nil (C : EngineCtx e) : C.absorbed [] = C := by
  cases e with
  | tiger | tiger2 => exact tigerAbsorbed_nil tigerSbox C
  | rg32 | rg64 => exact rgAbsorbed_nil C

theorem EngineCtx.absorbed_append (C : EngineCtx e) (x y : Bytes) :
    C.absorbed (x ++ y) = (C.absorbed x).absorbed y := by
  cases e with
  | tiger | tiger2 => exact tigerAbsorbed_append tigerSbox C x y
  | rg32 | rg64 => exact rgAbsorbed_append C x y

theorem EngineCtx.absorbed_phase (C : EngineCtx e) (arg : Bytes) :
    (C.absorbed arg).phase = if 0 < arg.length then .accum else C.phase := by
  cases e with
  | tiger | tiger2 | rg32 | rg64 => rfl

theorem EngineCtx.Fits.mono {m n : Nat} (h : C.Fits n) (hmn : m ≤ n) : C.Fits m := by
  cases e with
  | tiger | tiger2 => exact (Nat.add_le_add_left hmn _).trans h
  | rg32 | rg64 => trivial

/-- What fits a context after some bytes fits what is left of the limit: the counter is exact below it (R104). -/
theorem EngineCtx.Fits.absorbed {arg : Bytes} {n : Nat} (h : C.Fits (arg.length + n)) : (C.absorbed arg).Fits n := by
  cases e with
  | tiger | tiger2 =>
    have hsum : (TigerCtx.totalLength C).toNat + (arg.length + n) ≤ 2 ^ 64 - 1 := h
    have hexact := tigerAbsorbed_totalLength_toNat tigerSbox C arg (by omega)
    change (tigerAbsorbed tigerSbox C arg).totalLength.toNat + n ≤ 2 ^ 64 - 1
    omega
  | rg32 | rg64 => trivial

/-- The context an ABSORB leaves that fits: it takes no byte on an UNINIT context (R261). -/
def EngineCtx.afterAbsorb (C : EngineCtx e) (arg : Bytes) : EngineCtx e :=
  if C.phase = .uninit then C else C.absorbed arg

theorem EngineCtx.afterAbsorb_nil (C : EngineCtx e) : C.afterAbsorb [] = C := by
  rw [EngineCtx.afterAbsorb, EngineCtx.absorbed_nil, ite_self]

theorem EngineCtx.afterAbsorb_append (C : EngineCtx e) (x y : Bytes) :
    C.afterAbsorb (x ++ y) = (C.afterAbsorb x).afterAbsorb y := by
  by_cases hphase : C.phase = .uninit
  · simp [EngineCtx.afterAbsorb, hphase]
  · have hkept : (C.absorbed x).phase ≠ .uninit := by
      rw [EngineCtx.absorbed_phase]
      split <;> simp [hphase]
    simp only [EngineCtx.afterAbsorb, hphase, hkept, if_false, EngineCtx.absorbed_append]

theorem EngineCtx.Fits.afterAbsorb {arg : Bytes} {n : Nat} (h : C.Fits (arg.length + n)) :
    (C.afterAbsorb arg).Fits n := by
  unfold EngineCtx.afterAbsorb
  split
  · exact h.mono (Nat.le_add_left n arg.length)
  · exact h.absorbed

theorem bodyCtx_engineBody_absorb {arg : Bytes} (n : Nat) (h : C.Fits arg.length) :
    bodyCtx C (engineBody .absorb e arg n C) = C.afterAbsorb arg := by
  by_cases hphase : C.phase = .uninit
  · rw [engineBody_uninit e hphase (.inl rfl), EngineCtx.afterAbsorb, if_pos hphase]
    rfl
  · have hok : engineBody .absorb e arg n C = .ok (C.absorbed arg, []) := by
      cases e with
      | tiger | tiger2 => exact tigerAbsorb_eq_ok.mpr ⟨hphase, h, rfl, rfl⟩
      | rg32 | rg64 => exact rgAbsorb_eq_ok.mpr ⟨hphase, rfl, rfl⟩
    rw [hok, EngineCtx.afterAbsorb, if_neg hphase]
    rfl

end

/-! ## Runs of ABSORB (R33, R52) -/

/-- One ABSORB within the limit. -/
theorem exec_absorbOf {e : Engine} {arg : Bytes} {s : State} (h : (s.ctxOf e).Fits arg.length) :
    ∃ t, exec (absorbOf e arg) s = .next t ∧ s.WritesOnly t e ((s.ctxOf e).afterAbsorb arg) := by
  have hexec : exec (absorbOf e arg) s = s.settle (s.putCtx e) (engineBody .absorb e arg 0 (s.ctxOf e)) := by
    cases e with
    | tiger | tiger2 | rg32 | rg64 => rfl
  obtain ⟨t, ht, hwrites, -⟩ := settle_writesOnly s e (engineBody .absorb e arg 0 (s.ctxOf e))
  rw [bodyCtx_engineBody_absorb 0 h] at hwrites
  exact ⟨t, hexec.trans ht, hwrites⟩

theorem execAll_cons_of_next {i : Instr} {is : List Instr} {s t : State} (h : exec i s = .next t) :
    execAll (i :: is) s = execAll is t := by
  simp only [execAll, h]

/-- A run of ABSORBs within the limit writes what one ABSORB of all their bytes would. -/
theorem execAll_absorbOf {e : Engine} (parts : List Bytes) {s : State} (h : (s.ctxOf e).Fits parts.flatten.length) :
    ∃ t, execAll (parts.map (absorbOf e)) s = .next t
      ∧ s.WritesOnly t e ((s.ctxOf e).afterAbsorb parts.flatten) := by
  induction parts generalizing s with
  | nil => exact ⟨s, rfl, (EngineCtx.afterAbsorb_nil _).symm, fun _ _ => rfl⟩
  | cons x parts ih =>
    rw [List.flatten_cons, List.length_append] at h
    obtain ⟨s', hs', hfirst⟩ := exec_absorbOf (h.mono (Nat.le_add_right _ _))
    obtain ⟨t, ht, hrest⟩ := ih (hfirst.own ▸ h.afterAbsorb)
    refine ⟨t, (execAll_cons_of_next hs').trans ht, ?_⟩
    rw [List.flatten_cons, EngineCtx.afterAbsorb_append, ← hfirst.own]
    exact hfirst.trans hrest

/-- Settles O31: `execAll_absorbOf` for the parts, `exec_absorbOf` for the whole. -/
theorem splittingTheStreamLeavesNoTrace : Obligations.SplittingTheStreamLeavesNoTrace := by
  unfold Obligations.SplittingTheStreamLeavesNoTrace
  intro e parts s h
  have hfits : (s.ctxOf e).Fits parts.flatten.length := exceedsLimit_eq_false.mp h
  obtain ⟨t, ht, hparts⟩ := execAll_absorbOf parts hfits
  obtain ⟨u, hu, hwhole⟩ := exec_absorbOf hfits
  exact ⟨t, u, ht, hu, hparts.sameCtxs hwhole⟩

end Sys2Proof.Machine
end

section
/-! The encoding (R71 to R74, R84): the fields of a code, which codes name an operation and engine, and that decoding
and encoding are inverse to each other. -/

namespace Sys2Proof

/-! ## The fields of a code (R71) -/

/-- A code is its three fields side by side. -/
theorem fields_append (c : Byte) : (rsvField c ++ opField c) ++ engField c = c := by
  have hhigh : rsvField c ++ opField c = c.extractLsb' 2 6 :=
    BitVec.extractLsb'_append_extractLsb'_eq_extractLsb' rfl
  have hall : c.extractLsb' 2 6 ++ engField c = c.extractLsb' 0 8 :=
    BitVec.extractLsb'_append_extractLsb'_eq_extractLsb' rfl
  rw [hhigh, hall, BitVec.extractLsb'_eq_self]

/-- An `OP` field names the operation it is the code of (R73). -/
theorem opCode_of_opOf {b : BitVec 3} {op : Op} (h : opOf b = .ok op) : opCode op = b := by
  revert b
  cases op with
  | init | absorb | finalize | transform | blank | save | load => decide

/-- An `ENG` field is the code of the engine it names (R72). -/
theorem engCode_engineOf (b : BitVec 2) : engCode (engineOf b) = b := by
  revert b
  decide

/-! ## Codes and commands (R74, R84) -/

/-- The pairs of the map of R74: BLANK is no operation of a Tiger engine (R81). -/
@[reducible] def NamesCommand (op : Op) (e : Engine) : Prop := op = .blank → e ≠ .tiger ∧ e ≠ .tiger2

/-- A code decodes to a pair of the map exactly when it is the code of that pair. -/
theorem decodeCode_eq_ok {c : Byte} {op : Op} {e : Engine} :
    decodeCode c = .ok (op, e) ↔ NamesCommand op e ∧ c = encodeCode op e := by
  constructor
  · intro h
    unfold decodeCode at h
    split at h
    · nomatch h
    next hrsv =>
      split at h
      · nomatch h
      next op' hop =>
        split at h
        · nomatch h
        next hblank =>
          obtain ⟨rfl, rfl⟩ := Prod.mk.inj (Except.ok.inj h)
          have hzero : rsvField c = 0#3 := not_not.mp hrsv
          refine ⟨fun hop' => not_or.mp fun htiger => hblank ⟨hop', htiger⟩, ?_⟩
          rw [encodeCode, opCode_of_opOf hop, engCode_engineOf, ← hzero, fields_append]
  · rintro ⟨hnames, rfl⟩
    exact Laws.decodeCode_encodeCode op e hnames

theorem namesCommand_opEngine (i : Instr) : NamesCommand (opEngine i).1 (opEngine i).2 := by
  intro h
  cases i with
  | rg32Blank arg n | rg64Blank arg n => exact ⟨nofun, nofun⟩
  | _ => nomatch h

/-- The command of an operation, an engine, an operand and an output length is the one that has all four. -/
theorem instrOf_eq_ok {op : Op} {e : Engine} {arg : Bytes} {n : Nat} {i : Instr} :
    instrOf op e arg n = .ok i ↔ opEngine i = (op, e) ∧ i.arg = arg ∧ i.outlen = n := by
  constructor
  · intro h
    unfold instrOf at h
    split at h
    case h_1 | h_2 => nomatch h
    all_goals
      obtain rfl := Except.ok.inj h
      exact ⟨rfl, rfl, rfl⟩
  · rintro ⟨hop, rfl, rfl⟩
    obtain ⟨rfl, rfl⟩ := Prod.mk.inj hop.symm
    cases i <;> rfl

/-- Every pair of the map has a command for every operand and output length. -/
theorem exists_instrOf {op : Op} {e : Engine} (h : NamesCommand op e) (arg : Bytes) (n : Nat) :
    ∃ i, instrOf op e arg n = .ok i := by
  cases op with
  | init | absorb | finalize | transform | save | load =>
    cases e with
    | tiger | tiger2 | rg32 | rg64 => exact ⟨_, rfl⟩
  | blank =>
    cases e with
    | tiger => exact absurd rfl (h rfl).1
    | tiger2 => exact absurd rfl (h rfl).2
    | rg32 | rg64 => exact ⟨_, rfl⟩

/-- The transaction with the code of an operation and an engine decodes to their command, with the operand and the
output length delivered (R82). -/
theorem decode_of_instrOf {op : Op} {e : Engine} {arg : Bytes} {n : Nat} {i : Instr} (h : instrOf op e arg n = .ok i) :
    decode { cmd := encodeCode op e, arg := arg, outlen := n } = .ok i := by
  have hnames : NamesCommand op e := by
    have hi := namesCommand_opEngine i
    rwa [(instrOf_eq_ok.mp h).1] at hi
  simp only [decode, decodeCode_eq_ok.mpr ⟨hnames, rfl⟩, h]

theorem decode_encode (i : Instr) : decode (encode i) = .ok i :=
  decode_of_instrOf (instrOf_eq_ok.mpr ⟨rfl, rfl, rfl⟩)

/-- An illegal code is refused for what is wrong with the code, whatever comes with it (R82, R264). -/
theorem decode_of_decodeCode_error {cmd : Byte} {r : IllegalCode} (h : decodeCode cmd = .error r) (arg : Bytes)
    (n : Nat) : decode { cmd := cmd, arg := arg, outlen := n } = .error r := by
  simp only [decode, h]

/-- A transaction that decodes is the encoding of its command. -/
theorem eq_encode_of_decode {c : Command} {i : Instr} (h : decode c = .ok i) : c = encode i := by
  unfold decode at h
  split at h
  · nomatch h
  next op e hcode =>
    obtain ⟨hop, harg, hlen⟩ := instrOf_eq_ok.mp h
    rw [encode, hop, harg, hlen, ← (decodeCode_eq_ok.mp hcode).2]

theorem decode_eq_ok {c : Command} {i : Instr} : decode c = .ok i ↔ c = encode i :=
  ⟨eq_encode_of_decode, fun h => h ▸ decode_encode i⟩

/-- Settles O1: every command is decoded from its encoding, and a code that decodes is rebuilt from its fields. -/
theorem decodeEncodeAgree : Obligations.DecodeEncodeAgree := by
  unfold Obligations.DecodeEncodeAgree
  exact fun _ _ => decode_eq_ok

/-! ## Codes written out (R74) -/

/-- Settles O2: the legal codes by their rows of the code table, the illegal ones by their `OP` and `ENG` fields. -/
theorem listedCodesDecode : Obligations.ListedCodesDecode := by
  unfold Obligations.ListedCodesDecode
  open Laws.CodeTable in
  exact ⟨fun arg n => decode_eq_ok.mpr (tigerInit arg n).1.symm,
    fun arg n => decode_eq_ok.mpr (tiger2Absorb arg n).1.symm,
    fun arg n => decode_eq_ok.mpr (rg32Finalize arg n).1.symm,
    fun arg n => decode_eq_ok.mpr (rg64Round arg n).1.symm,
    fun arg n => decode_eq_ok.mpr (rg32Blank arg n).1.symm,
    fun arg n => decode_eq_ok.mpr (rg64Save arg n).1.symm,
    fun arg n => decode_eq_ok.mpr (tiger2Load arg n).1.symm,
    decode_of_decodeCode_error (by decide), decode_of_decodeCode_error (by decide)⟩

/-! ## The count of the legal codes (R74) -/

/-- A transaction decodes exactly when its code does: the operand and the output length have no part in it (R82). -/
theorem decode_isOk (c : Command) : (decode c).isOk = (decodeCode c.cmd).isOk := by
  cases hcode : decodeCode c.cmd with
  | error r => exact congrArg Except.isOk (decode_of_decodeCode_error hcode c.arg c.outlen)
  | ok r =>
    obtain ⟨i, hi⟩ := exists_instrOf (decodeCode_eq_ok.mp hcode).1 c.arg c.outlen
    simp only [decode, hcode, hi]
    rfl

/-- A word of the opcode table is legal exactly when its first byte is a legal code. -/
theorem isSome_decodeTableWord (nbits w : Nat) :
    (decodeTableWord nbits w).isSome = (decodeCode (tableByte w 0)).isOk := by
  have hisOk : (decodeTableWord nbits w).isSome = (decode (tableCommand nbits w)).isOk := by
    unfold decodeTableWord
    cases decode (tableCommand nbits w) <;> rfl
  exact hisOk.trans (decode_isOk _)

/-- Settles O3: the legal codes are counted by the code alone; the others of the 256 are illegal. -/
theorem legalCodesAre26Of256 : Obligations.LegalCodesAre26Of256 := by
  unfold Obligations.LegalCodesAre26Of256
  have hlegal : ((List.range 256).filter fun n => (decodeTableWord 8 n).isSome).length = 26 := by
    simp only [isSome_decodeTableWord]
    decide +kernel
  have hall := List.length_eq_length_filter_add (l := List.range 256) fun n => (decodeTableWord 8 n).isSome
  rw [hlegal, List.length_range] at hall
  refine ⟨hlegal, ?_⟩
  simp only [Option.not_isSome] at hall
  omega

end Sys2Proof
end

section
/-! The operands of the commands (R77) and what a command does with them: a decoded command is the body of its operation
on its engine, the pure commands read their operand alone (R75), and what stands in the operand of COMPRESS, ROUND and
BLANK is what the algorithm computes with. -/

namespace Sys2Proof.Machine

/-! ## A decoded command (R84) -/

/-- The command of an operation and an engine runs the operation's body on the engine's context. -/
theorem exec_of_instrOf {op : Op} {e : Engine} {arg : Bytes} {n : Nat} {i : Instr} (h : instrOf op e arg n = .ok i)
    (s : State) : exec i s = s.settle (s.putCtx e) (engineBody op e arg n (s.ctxOf e)) := by
  obtain ⟨hop, rfl, rfl⟩ := instrOf_eq_ok.mp h
  obtain ⟨rfl, rfl⟩ := Prod.mk.inj hop.symm
  exact exec_eq_settle i s

/-- Only FINALIZE reads the output length (R79). -/
theorem engineBody_outlen {op : Op} (hop : op ≠ .finalize) (e : Engine) (arg : Bytes) (n m : Nat) (C : EngineCtx e) :
    engineBody op e arg n C = engineBody op e arg m C := by
  cases op with
  | finalize => exact absurd rfl hop
  | init | absorb | transform | blank | save | load =>
    cases e with
    | tiger | tiger2 | rg32 | rg64 => rfl

/-- Settles O55: the two commands run one and the same body. -/
theorem outlenIsReadOnlyByFinalize : Obligations.OutlenIsReadOnlyByFinalize := by
  unfold Obligations.OutlenIsReadOnlyByFinalize
  intro op e arg n m i j s hop hi hj
  rw [exec_of_instrOf hi, exec_of_instrOf hj, engineBody_outlen hop e arg n m]

/-! ## The pure commands (R75) -/

theorem requireLength_of_eq {α : Type} {n : Nat} {arg : Bytes} {b : Except Status α} (h : arg.length = n) :
    requireLength n arg b = b := if_pos h

theorem requireLength_of_ne {α : Type} {n : Nat} {arg : Bytes} {b : Except Status α} (h : arg.length ≠ n) :
    requireLength n arg b = .error .operandLength := if_neg h

/-- A pure command checks the length of its operand and answers a result that no state has a part in. -/
theorem exec_pure {i : Instr} (h : isPure i = true) :
    ∃ len res, ∀ s : State, exec i s = s.answer (requireLength len i.arg (.ok res)) := by
  cases i with
  | tigerCompress arg n | tiger2Compress arg n | rg32Round arg n | rg64Round arg n | rg32Blank arg n
  | rg64Blank arg n => exact ⟨_, _, fun _ => rfl⟩
  | _ => nomatch h

/-- The codes of the pure commands (R74, R75). -/
theorem encodeCode_mem_pureCodes_iff {op : Op} {e : Engine} (h : NamesCommand op e) :
    (op == .transform || op == .blank) = true ↔
      encodeCode op e ∈ ([0x0C, 0x0D, 0x0E, 0x0F, 0x12, 0x13] : List Byte) := by
  revert h
  cases op with
  | init | absorb | finalize | transform | blank | save | load =>
    cases e with
    | tiger | tiger2 | rg32 | rg64 => decide

/-- Settles O50: by `exec_pure` the operand's length alone decides between OK and OPERAND_LENGTH. -/
theorem pureCommandsDependOnTheOperandAlone : Obligations.PureCommandsDependOnTheOperandAlone := by
  unfold Obligations.PureCommandsDependOnTheOperandAlone
  refine ⟨fun i hpure => ?_, fun i => encodeCode_mem_pureCodes_iff (namesCommand_opEngine i), fun arg n m s => rfl⟩
  obtain ⟨len, res, hexec⟩ := exec_pure hpure
  by_cases hlen : i.arg.length = len
  · refine ⟨statusCode .ok, res, by decide, fun s => ?_⟩
    rw [hexec, requireLength_of_eq hlen]
    rfl
  · refine ⟨statusCode .operandLength, [], by decide, fun s => ?_⟩
    rw [hexec, requireLength_of_ne hlen]
    rfl

/-! ## The operand of COMPRESS (R77, R150) -/

/-- Word `i` of a word list that stands between the first `o` bytes and a rest. -/
theorem leLoad_append_bytesOf {n : Nat} (hn : 8 ∣ n) (s t : Bytes) (l : List (BitVec n)) (o i : Nat) (hs : s.length = o)
    (hi : i < l.length) : leLoad n (s ++ (bytesOf l ++ t)) (o + n / 8 * i) = l[i] := by
  rw [← hs, leLoad_append_right, leLoad_bytesOf hn l t i hi]

/-- The words of a block in their order (R140). -/
def blockWords (x : Block) : List W64 := [x.x0, x.x1, x.x2, x.x3, x.x4, x.x5, x.x6, x.x7]

theorem blockBytes_eq_bytesOf (x : Block) : blockBytes x = bytesOf (blockWords x) := by
  simp [blockBytes, blockWords, bytesOf]

/-- A block read back from its bytes. -/
theorem blockAt_blockBytes (s t : Bytes) (x : Block) (o : Nat) (hs : s.length = o) :
    blockAt (s ++ (blockBytes x ++ t)) o = x := by
  have hword (i : Nat) (hi : i < 8) : leLoad 64 (s ++ (blockBytes x ++ t)) (o + 8 * i) = (blockWords x)[i]'hi := by
    rw [blockBytes_eq_bytesOf]
    exact leLoad_append_bytesOf (by norm_num) s t (blockWords x) o i hs hi
  unfold blockAt
  congr 1
  exacts [hword 0 (by decide), hword 1 (by decide), hword 2 (by decide), hword 3 (by decide), hword 4 (by decide),
    hword 5 (by decide), hword 6 (by decide), hword 7 (by decide)]

@[simp] theorem length_blockBytes (x : Block) : (blockBytes x).length = 64 := by
  simp [blockBytes]

@[simp] theorem length_compressOperand (h : Chain) (x : Block) : (compressOperand h x).length = 88 := by
  simp [compressOperand]

theorem chainAt_compressOperand (h : Chain) (x : Block) : chainAt (compressOperand h x) 0 = h :=
  chainAt_chainBytes [] (blockBytes x) h 0 rfl

theorem blockAt_compressOperand (h : Chain) (x : Block) : blockAt (compressOperand h x) 24 = x := by
  have hblock := blockAt_blockBytes (chainBytes h) [] x 24 (length_chainBytes h)
  rwa [List.append_nil] at hblock

/-- COMPRESS of the operand that holds `h` and `x` is the compression of `h` and `x`. -/
theorem tigerCompressCmd_compressOperand (S : Sbox) (h : Chain) (x : Block) :
    tigerCompressCmd S (compressOperand h x) = .ok (chainBytes (tigerCompressWith S h x)) := by
  rw [tigerCompressCmd, requireLength_of_eq (length_compressOperand h x), chainAt_compressOperand,
    blockAt_compressOperand]

/-- Settles O21: both engines answer the one COMPRESS body. -/
theorem compressReturnsTigerCompress : Obligations.CompressReturnsTigerCompress := by
  unfold Obligations.CompressReturnsTigerCompress
  intro s h x arg n
  have hok := congrArg s.answer (tigerCompressCmd_compressOperand tigerSbox h x)
  have hfault (hlen : arg.length ≠ 88) : s.answer (tigerCompressCmd tigerSbox arg) = s.answer (.error .operandLength) :=
    congrArg s.answer (requireLength_of_ne hlen)
  exact ⟨hok, hok, fun hlen => ⟨hfault hlen, hfault hlen⟩⟩

/-! ## The operands of ROUND and BLANK (R77, R190, R192) -/

section
variable {W : Nat} (m : MillBelt W) (p : Vector (BitVec W) 3)

theorem length_roundOperand : (roundOperand m p).length = 61 * rgWordBytes W := by
  simp only [roundOperand, List.length_append, length_millBeltBytes, length_bytesOf, Vector.length_toList, rgWordBytes]
  omega

theorem millBeltAt_roundOperand (hW : 8 ∣ W) : millBeltAt W (roundOperand m p) 0 = m :=
  millBeltAt_millBeltBytes hW [] (bytesOf p.toList) m 0 rfl

theorem wordsAt_roundOperand (hW : 8 ∣ W) : wordsAt W 3 (roundOperand m p) (rgWordBytes W * 58) = p := by
  have hwords := wordsAt_bytesOf hW (millBeltBytes m) [] p (rgWordBytes W * 58)
    ((length_millBeltBytes m).trans (Nat.mul_comm _ _))
  rwa [List.append_nil] at hwords

/-- ROUND of the operand that holds mill, belt and input words is the absorption round of them (R185). -/
theorem rgRoundCmd_roundOperand (hW : 8 ∣ W) :
    rgRoundCmd W (roundOperand m p) = .ok (millBeltBytes (rgRound (inject m p))) := by
  rw [rgRoundCmd, requireLength_of_eq (length_roundOperand m p), millBeltAt_roundOperand m p hW,
    wordsAt_roundOperand m p hW, roundIn]

/-- BLANK of the operand that holds mill and belt is the blank round of them (R184). -/
theorem rgBlankCmd_millBeltBytes (hW : 8 ∣ W) :
    rgBlankCmd W (millBeltBytes m) = .ok (millBeltBytes (rgRound m)) := by
  have hread := millBeltAt_millBeltBytes hW [] [] m 0 rfl
  rw [List.nil_append, List.append_nil] at hread
  rw [rgBlankCmd, requireLength_of_eq (length_millBeltBytes m), hread]

end

/-- Settles O22: `rgRoundCmd_roundOperand` at the two word lengths. -/
theorem roundReturnsTheAbsorptionRound : Obligations.RoundReturnsTheAbsorptionRound := by
  unfold Obligations.RoundReturnsTheAbsorptionRound
  constructor
  · intro s m p arg n
    exact ⟨congrArg s.answer (rgRoundCmd_roundOperand m p (by norm_num)),
      fun hlen => congrArg s.answer (requireLength_of_ne hlen)⟩
  · intro s m p arg n
    exact ⟨congrArg s.answer (rgRoundCmd_roundOperand m p (by norm_num)),
      fun hlen => congrArg s.answer (requireLength_of_ne hlen)⟩

/-- Settles O23: `rgBlankCmd_millBeltBytes` at the two word lengths. -/
theorem blankReturnsTheBlankRound : Obligations.BlankReturnsTheBlankRound := by
  unfold Obligations.BlankReturnsTheBlankRound
  constructor
  · intro s m arg n
    exact ⟨congrArg s.answer (rgBlankCmd_millBeltBytes m (by norm_num)),
      fun hlen => congrArg s.answer (requireLength_of_ne hlen)⟩
  · intro s m arg n
    exact ⟨congrArg s.answer (rgBlankCmd_millBeltBytes m (by norm_num)),
      fun hlen => congrArg s.answer (requireLength_of_ne hlen)⟩

end Sys2Proof.Machine
end

section
/-! The status and the length of the result of a command: the checks of its body are the causes of R270, and a body that
ends OK answers as many bytes as the table of R76 says. -/

namespace Sys2Proof.Machine

/-! ## The status of a body (R270) -/

/-- The status a body ends with. -/
def bodyStatus {α : Type} : Except Status α → Status
  | .ok _ => .ok
  | .error st => st

section
variable {α : Type} {b : Except Status α}

@[simp] theorem bodyStatus_ok (x : α) : bodyStatus (.ok x : Except Status α) = .ok := rfl

@[simp] theorem bodyStatus_requireLength {n : Nat} {arg : Bytes} :
    bodyStatus (requireLength n arg b) = if arg.length = n then bodyStatus b else .operandLength := by
  unfold requireLength; split <;> rfl

@[simp] theorem bodyStatus_requireInit {ph : Phase} :
    bodyStatus (requireInit ph b) = if ph = .uninit then .notInitialized else bodyStatus b := by
  unfold requireInit; split <;> rfl

@[simp] theorem bodyStatus_requireOutlen {n outlen : Nat} :
    bodyStatus (requireOutlen n outlen b) = if outlen = n then bodyStatus b else .sizeMismatch := by
  unfold requireOutlen; split <;> rfl

@[simp] theorem bodyStatus_requireWithin {limit total n : Nat} :
    bodyStatus (requireWithin limit total n b) = if limit < total + n then .inputTooLarge else bodyStatus b := by
  unfold requireWithin
  split
  next h => rw [if_neg (Nat.not_lt.mpr h)]
  next h => rw [if_pos (Nat.lt_of_not_le h)]; rfl

@[simp] theorem bodyStatus_requireImage {v : Bool} :
    bodyStatus (requireImage v b) = if v = false then .badContext else bodyStatus b := by
  cases v <;> rfl

@[simp] theorem bodyStatus_keeping {κ : Type} (C : κ) (r : Except Status Bytes) :
    bodyStatus (keeping C r) = bodyStatus r := by
  cases r <;> rfl

end

section
variable {s : State} {n : Nat}

@[simp] theorem exceedsLimit_tiger :
    s.exceedsLimit .tiger n = true ↔ Config.tigerLengthLimit < s.tiger.totalLength.toNat + n := decide_eq_true_iff
@[simp] theorem exceedsLimit_tiger2 :
    s.exceedsLimit .tiger2 n = true ↔ Config.tigerLengthLimit < s.tiger2.totalLength.toNat + n := decide_eq_true_iff
@[simp] theorem exceedsLimit_rg32 : s.exceedsLimit .rg32 n = false := rfl
@[simp] theorem exceedsLimit_rg64 : s.exceedsLimit .rg64 n = false := rfl

end

/-- The checks of a command's body are the causes of R270 that can apply to it, in their order. -/
theorem bodyStatus_commandBody (i : Instr) (s : State) :
    bodyStatus (commandBody i (s.ctxOf (opEngine i).2)) = expectedStatus i s := by
  simp only [commandBody, expectedStatus, Instr.operandLengthOk, Instr.outlenOk]
  cases i with
  | tigerInit arg n | tiger2Init arg n | rg32Init arg n | rg64Init arg n =>
    simp [opEngine, needsInit, Instr.requiredLen, Instr.arg, engineBody, tigerBody, rgBody, tigerInit, rgInit]
  | tigerAbsorb arg n | tiger2Absorb arg n | rg32Absorb arg n | rg64Absorb arg n =>
    simp [opEngine, needsInit, Instr.requiredLen, Instr.arg, State.phaseOf, State.ctxOf, engineBody, tigerBody, rgBody,
      tigerAbsorb, rgAbsorb]
  | tigerFinalize arg n | tiger2Finalize arg n | rg32Finalize arg n | rg64Finalize arg n =>
    simp [opEngine, needsInit, Instr.requiredLen, Instr.requiredOutlen, Instr.arg, Instr.outlen, State.phaseOf,
      State.ctxOf, engineBody, tigerBody, rgBody, tigerFinalize, rgFinalize]
  | tigerCompress arg n | tiger2Compress arg n | rg32Round arg n | rg64Round arg n =>
    simp [opEngine, needsInit, Instr.requiredLen, Instr.arg, engineBody, tigerBody, rgBody,
      tigerCompressCmd, rgRoundCmd]
  | rg32Blank arg n | rg64Blank arg n =>
    simp [opEngine, needsInit, Instr.requiredLen, Instr.arg, engineBody, rgBody, rgBlankCmd]
  | tigerSave arg n | tiger2Save arg n | rg32Save arg n | rg64Save arg n =>
    simp [opEngine, needsInit, Instr.requiredLen, Instr.arg, State.phaseOf, State.ctxOf, engineBody, tigerBody, rgBody,
      tigerSave, rgSave]
  | tigerLoad arg n | tiger2Load arg n | rg32Load arg n | rg64Load arg n =>
    simp [opEngine, needsInit, Instr.requiredLen, Instr.arg, imageValid, engineBody, tigerBody, rgBody,
      tigerLoad, rgLoad]

/-- Different statuses have different codes (R260). -/
theorem statusCode_injective : Function.Injective statusCode := by
  intro st st' h
  cases st <;> cases st' <;> trivial

/-- Every command completes with the status R270 gives it. -/
theorem exec_status {i : Instr} {s t : State} (h : exec i s = .next t) :
    t.status = statusCode (expectedStatus i s) := by
  rw [← bodyStatus_commandBody]
  rcases exec_cases h with ⟨C, res, hbody, rfl⟩ | ⟨st, hbody, rfl⟩
  all_goals
    rw [hbody]
    rfl

/-! ## Well-formed and ill-formed calls (R76, R79) -/

theorem wellFormed_iff {i : Instr} : i.wellFormed = true ↔ i.operandLengthOk = true ∧ i.outlenOk = true := by
  rw [Instr.wellFormed, Bool.and_eq_true]

/-- FINALIZE is the one operation that can refuse an output length (R79). -/
theorem op_eq_finalize_of_outlenOk {i : Instr} (h : i.outlenOk = false) : (opEngine i).1 = .finalize := by
  cases i with
  | tigerFinalize arg n | tiger2Finalize arg n | rg32Finalize arg n | rg64Finalize arg n => rfl
  | _ => nomatch h

section
variable {i : Instr} {s : State}

theorem operandLengthOk_of_expectedStatus (h : expectedStatus i s = .operandLength) : i.operandLengthOk = false := by
  unfold expectedStatus at h
  split_ifs at h with hlen
  exact hlen

theorem outlenOk_of_expectedStatus (h : expectedStatus i s = .sizeMismatch) : i.outlenOk = false := by
  unfold expectedStatus at h
  split_ifs at h with _ _ hsize
  exact hsize.2

/-- A call that R270 gives OK has passed both length checks. -/
theorem wellFormed_of_expectedStatus (h : expectedStatus i s = .ok) : i.wellFormed = true := by
  unfold expectedStatus at h
  split_ifs at h with hlen _ hsize
  have hout : i.outlenOk ≠ false := fun hout => hsize ⟨op_eq_finalize_of_outlenOk hout, hout⟩
  exact wellFormed_iff.mpr ⟨Bool.eq_true_of_not_eq_false hlen, Bool.eq_true_of_not_eq_false hout⟩

/-- A well-formed FINALIZE on an initialised context has no cause of a fault (90_conflicts.md C4). -/
theorem expectedStatus_finalize (hwell : i.wellFormed = true) (hop : (opEngine i).1 = .finalize)
    (hphase : s.phaseOf (opEngine i).2 ≠ .uninit) : expectedStatus i s = .ok := by
  obtain ⟨hlen, hout⟩ := wellFormed_iff.mp hwell
  simp [expectedStatus, hlen, hout, hop, hphase]

end

/-- Settles O54: the status is that of R270, where the two length faults are the failures of the two checks. -/
theorem wellFormedCallsRaiseNoLengthFaultAndIllFormedCallsFault :
    Obligations.WellFormedCallsRaiseNoLengthFaultAndIllFormedCallsFault := by
  unfold Obligations.WellFormedCallsRaiseNoLengthFaultAndIllFormedCallsFault
  intro i s t h
  rw [exec_status h]
  refine ⟨fun hwell => ?wellFormed, fun hill h0 => ?illFormed⟩
  case wellFormed =>
    obtain ⟨hlen, hout⟩ := wellFormed_iff.mp hwell
    refine ⟨fun h6 => ?length, fun h3 => ?size,
      fun hop hphase => congrArg statusCode (expectedStatus_finalize hwell hop hphase)⟩
    case length => simp [operandLengthOk_of_expectedStatus (statusCode_injective h6)] at hlen
    case size => simp [outlenOk_of_expectedStatus (statusCode_injective h3)] at hout
  case illFormed => simp [wellFormed_of_expectedStatus ((statusCode_eq_zero _).mp h0)] at hill

/-! ## The length of a result (R76) -/

section
variable {W : Nat}

theorem length_rgSqueeze (n : Nat) (m : MillBelt W) : (rgSqueeze n m).length = 2 * rgWordBytes W * n := by
  induction n generalizing m with
  | zero => rfl
  | succ n ih =>
    simp only [rgSqueeze, List.length_append, length_leStore, ih, rgWordBytes]
    ring

theorem length_rgOutput (m : MillBelt W) : (rgOutput m).length = 2 * rgWordBytes W * rgOutRounds W :=
  length_rgSqueeze _ _

end

/-- A body that ends OK answers as many bytes as the table says. -/
theorem length_of_engineBody_ok {i : Instr} {op : Op} {e : Engine} {arg res : Bytes} {n : Nat} {C D : EngineCtx e}
    (hi : opEngine i = (op, e)) (hInv : C.Inv) (h : engineBody op e arg n C = .ok (D, res)) :
    res.length = resultLen i := by
  simp only [resultLen, hi]
  cases op with
  | init =>
    cases e with
    | tiger | tiger2 =>
      obtain ⟨-, -, rfl⟩ := tigerInit_eq_ok.mp h
      rfl
    | rg32 | rg64 =>
      obtain ⟨-, -, rfl⟩ := rgInit_eq_ok.mp h
      rfl
  | absorb =>
    cases e with
    | tiger | tiger2 =>
      obtain ⟨-, -, -, rfl⟩ := tigerAbsorb_eq_ok.mp h
      rfl
    | rg32 | rg64 =>
      obtain ⟨-, -, rfl⟩ := rgAbsorb_eq_ok.mp h
      rfl
  | finalize =>
    cases e with
    | tiger | tiger2 =>
      obtain ⟨-, -, -, -, rfl⟩ := tigerFinalize_eq_ok.mp h
      exact length_chainBytes _
    | rg32 | rg64 =>
      obtain ⟨-, -, -, -, rfl⟩ := rgFinalize_eq_ok.mp h
      exact length_rgOutput _
  | transform =>
    cases e with
    | tiger | tiger2 =>
      obtain ⟨-, hres⟩ := keeping_eq_ok.mp h
      obtain ⟨-, rfl⟩ := tigerCompressCmd_eq_ok.mp hres
      exact length_chainBytes _
    | rg32 | rg64 =>
      obtain ⟨-, hres⟩ := keeping_eq_ok.mp h
      rw [(rgRoundCmd_eq_ok.mp hres).2]
      exact length_millBeltBytes _
  | blank =>
    cases e with
    | tiger | tiger2 => nomatch h
    | rg32 | rg64 =>
      obtain ⟨-, hres⟩ := keeping_eq_ok.mp h
      rw [(rgBlankCmd_eq_ok.mp hres).2]
      exact length_millBeltBytes _
  | save =>
    cases e with
    | tiger | tiger2 =>
      obtain ⟨-, -, -, rfl⟩ := tigerSave_eq_ok.mp h
      exact length_tigerImage _ hInv.1
    | rg32 | rg64 =>
      obtain ⟨-, -, -, rfl⟩ := rgSave_eq_ok.mp h
      exact length_rgImage _ hInv.1
  | load =>
    cases e with
    | tiger | tiger2 =>
      obtain ⟨-, -, -, rfl⟩ := tigerLoad_eq_ok.mp h
      rfl
    | rg32 | rg64 =>
      obtain ⟨-, -, -, rfl⟩ := rgLoad_eq_ok.mp h
      rfl

/-- Settles O53: a command that completes OK answers its body's result, and a fault is not OK. -/
theorem resultsHaveTheTabulatedLength : Obligations.ResultsHaveTheTabulatedLength := by
  unfold Obligations.ResultsHaveTheTabulatedLength
  intro i s t hInv h hok
  rcases exec_cases h with ⟨C, res, hbody, rfl⟩ | ⟨st, hbody, rfl⟩
  · have hctx := ((State.inv_iff s).mp hInv).1 (opEngine i).2
    exact ⟨_, rfl, length_of_engineBody_ok (e := (opEngine i).2) Prod.mk.eta.symm hctx hbody⟩
  · exact absurd ((statusCode_eq_zero st).mp hok) (engineBody_error _ hbody).1

end Sys2Proof.Machine
end

section
/-! The assembler (R85, R86): the command of each line, and what the pseudo-commands' lines do when they run. -/

namespace Sys2Proof.Machine

/-! ## The command of a line (R74, R77, R85) -/

/-- The transaction with the code of a pair of the map emits the command of that pair with its operand. -/
theorem emits_encodeCode {op : Op} {e : Engine} (h : NamesCommand op e) (arg : Bytes) (n : Nat) :
    emits { cmd := encodeCode op e, arg := arg, outlen := n } op e arg := by
  obtain ⟨i, hi⟩ := exists_instrOf h arg n
  obtain ⟨hop, harg, -⟩ := instrOf_eq_ok.mp hi
  exact ⟨i, decode_of_instrOf hi, hop, harg⟩

theorem namesCommand_of_ne_blank {op : Op} {e : Engine} (h : op ≠ .blank) : NamesCommand op e :=
  fun hop => absurd hop h

/-- A line of an operation that every engine has emits its command. -/
theorem emits_of_ne_blank {op : Op} (h : op ≠ .blank) (e : Engine) (arg : Bytes) (n : Nat) :
    emits { cmd := encodeCode op e, arg := arg, outlen := n } op e arg :=
  emits_encodeCode (namesCommand_of_ne_blank h) arg n

/-- FINALIZE's line decodes to the FINALIZE of its engine with the line's output length. -/
theorem decode_finalize_line (e : Engine) (n : Option Nat) :
    ∃ i, decode (assemble (.finalize e n)) = .ok i ∧ opEngine i = (.finalize, e) ∧ i.arg = []
      ∧ i.outlen = n.getD (digestBytes e) := by
  have hnames : NamesCommand .finalize e := namesCommand_of_ne_blank (by decide)
  obtain ⟨i, hi⟩ := exists_instrOf hnames [] (n.getD (digestBytes e))
  exact ⟨i, decode_of_instrOf hi, instrOf_eq_ok.mp hi⟩

/-- Every line decodes, to a call of the length R76 requires unless it loads an image of another size, and to a
well-formed one unless it also names an output length. -/
theorem decode_assemble (l : AsmLine) :
    ∃ i, decode (assemble l) = .ok i
      ∧ ((∀ e img, l ≠ .load e img) → i.operandLengthOk = true)
      ∧ ((∀ e img, l ≠ .load e img) → (∀ e n, l ≠ .finalize e (some n)) → i.wellFormed = true) := by
  have hwell {i : Instr} (hlen : i.operandLengthOk = true) (hout : i.outlenOk = true) : i.wellFormed = true :=
    wellFormed_iff.mpr ⟨hlen, hout⟩
  cases l with
  | init e | save e | absorb e d =>
    cases e with
    | tiger | tiger2 | rg32 | rg64 => exact ⟨_, decode_of_instrOf rfl, fun _ => rfl, fun _ _ => rfl⟩
  | finalize e n =>
    cases n with
    | none =>
      cases e with
      | tiger | tiger2 | rg32 | rg64 => exact ⟨_, decode_of_instrOf rfl, fun _ => rfl, fun _ _ => rfl⟩
    | some n =>
      cases e with
      | tiger | tiger2 | rg32 | rg64 => exact ⟨_, decode_of_instrOf rfl, fun _ => rfl, fun _ hn => absurd rfl (hn _ n)⟩
  | compress second h x =>
    have hlen := beq_iff_eq.mpr (length_compressOperand h x)
    cases second with
    | false | true => exact ⟨_, decode_of_instrOf rfl, fun _ => hlen, fun _ _ => hwell hlen rfl⟩
  | round32 m p | round64 m p =>
    have hlen := beq_iff_eq.mpr (length_roundOperand m p)
    exact ⟨_, decode_of_instrOf rfl, fun _ => hlen, fun _ _ => hwell hlen rfl⟩
  | blank32 m | blank64 m =>
    have hlen := beq_iff_eq.mpr (length_millBeltBytes m)
    exact ⟨_, decode_of_instrOf rfl, fun _ => hlen, fun _ _ => hwell hlen rfl⟩
  | load e img =>
    cases e with
    | tiger | tiger2 | rg32 | rg64 =>
      exact ⟨_, decode_of_instrOf rfl, fun hl => absurd rfl (hl _ img), fun hl _ => absurd rfl (hl _ img)⟩

/-- The bytes of a text of ASCII characters are the characters' codes (R85). -/
theorem asmBytes_text_toNat {t : String} (h : ∀ ch ∈ t.toList, ch.toNat < 128) :
    (asmBytes (.text t)).map BitVec.toNat = t.toList.map Char.toNat := by
  rw [asmBytes, List.map_map]
  refine List.map_congr_left fun ch hch => ?_
  have hlt := h ch hch
  rw [Function.comp_apply, BitVec.toNat_ofNat, Nat.mod_eq_of_lt (by omega)]

theorem compressOperand_eq_flatMap (a b c x0 x1 x2 x3 x4 x5 x6 x7 : W64) :
    compressOperand ⟨a, b, c⟩ ⟨x0, x1, x2, x3, x4, x5, x6, x7⟩
      = [a, b, c, x0, x1, x2, x3, x4, x5, x6, x7].flatMap leStore := by
  simp [compressOperand, chainBytes, blockBytes]

theorem millBeltBytes_eq_flatMap {W : Nat} (m : MillBelt W) :
    millBeltBytes m = (m.mill.toList ++ m.belt.toList).flatMap leStore :=
  List.flatMap_append.symm

theorem roundOperand_eq_flatMap {W : Nat} (m : MillBelt W) (p : Vector (BitVec W) 3) :
    roundOperand m p = (m.mill.toList ++ m.belt.toList ++ p.toList).flatMap leStore := by
  rw [roundOperand, millBeltBytes_eq_flatMap, bytesOf, ← List.flatMap_append]

/-! ## The lines of the pseudo-commands (R86) -/

theorem instrOf_init (e : Engine) : instrOf .init e [] 0 = .ok (initOf e) := by
  cases e with
  | tiger | tiger2 | rg32 | rg64 => rfl

theorem instrOf_absorb (e : Engine) (arg : Bytes) : instrOf .absorb e arg 0 = .ok (absorbOf e arg) := by
  cases e with
  | tiger | tiger2 | rg32 | rg64 => rfl

theorem instrOf_finalize (e : Engine) : instrOf .finalize e [] (digestBytes e) = .ok (finalizeOf e) := by
  cases e with
  | tiger | tiger2 | rg32 | rg64 => rfl

theorem instrOf_save (e : Engine) : instrOf .save e [] 0 = .ok (saveOf e) := by
  cases e with
  | tiger | tiger2 | rg32 | rg64 => rfl

theorem decode_init_line (e : Engine) : decode (assemble (.init e)) = .ok (initOf e) :=
  decode_of_instrOf (instrOf_init e)

theorem decode_absorb_line (e : Engine) (d : AsmBytes) :
    decode (assemble (.absorb e d)) = .ok (absorbOf e (asmBytes d)) :=
  decode_of_instrOf (instrOf_absorb e (asmBytes d))

theorem decode_finalize_line_none (e : Engine) : decode (assemble (.finalize e none)) = .ok (finalizeOf e) :=
  decode_of_instrOf (instrOf_finalize e)

theorem decode_save_line (e : Engine) : decode (assemble (.save e)) = .ok (saveOf e) :=
  decode_of_instrOf (instrOf_save e)

/-- HASH is the INIT, the ABSORB and the FINALIZE of its engine. -/
theorem decode_asmHash (e : Engine) (d : AsmBytes) :
    (asmHash e d).map (fun l => decode (assemble l))
      = [.ok (initOf e), .ok (absorbOf e (asmBytes d)), .ok (finalizeOf e)] := by
  simp only [asmHash, List.map_cons, List.map_nil, decode_init_line, decode_absorb_line, decode_finalize_line_none]

theorem decode_asmClone (e : Engine) : (asmClone e).map (fun l => decode (assemble l)) = [.ok (saveOf e)] := by
  simp only [asmClone, List.map_cons, List.map_nil, decode_save_line]

theorem decode_asmReset (e : Engine) : (asmReset e).map (fun l => decode (assemble l)) = [.ok (initOf e)] := by
  simp only [asmReset, List.map_cons, List.map_nil, decode_init_line]

/-- Settles O56: a line's code is that of its pair of the map, and its operand is R77's by the lemmas above. -/
theorem assembledLinesDecodeToTheirCommand : Obligations.AssembledLinesDecodeToTheirCommand := by
  unfold Obligations.AssembledLinesDecodeToTheirCommand
  refine ⟨decode_assemble, fun e => ⟨emits_of_ne_blank (by decide) e [] 0, emits_of_ne_blank (by decide) e [] 0⟩,
    ?text, fun e b n => ⟨emits_of_ne_blank (by decide) e b 0, emits_of_ne_blank (by decide) e (zeros n) 0⟩,
    ?finalize, ?compress, ?round32, ?round64, ?blank32, ?blank64,
    fun e img => emits_of_ne_blank (by decide) e img 0, decode_asmHash, decode_asmClone, decode_asmReset⟩
  case text =>
    intro e t hascii
    exact ⟨_, emits_of_ne_blank (by decide) e (asmBytes (.text t)) 0, asmBytes_text_toNat hascii⟩
  case finalize =>
    intro e n
    obtain ⟨i, hi, hopi, hargi, hleni⟩ := decode_finalize_line e (some n)
    obtain ⟨j, hj, hopj, hargj, hlenj⟩ := decode_finalize_line e none
    refine ⟨i, j, hi, hj, hopi, hargi, hleni, hopj, hargj, hlenj.trans ?_⟩
    cases e with
    | tiger | tiger2 | rg32 | rg64 => rfl
  case compress =>
    intro a b c x0 x1 x2 x3 x4 x5 x6 x7 second
    rw [← compressOperand_eq_flatMap]
    exact emits_of_ne_blank (by decide) _ _ 0
  case round32 | round64 =>
    intro m p
    rw [← roundOperand_eq_flatMap]
    exact emits_of_ne_blank (by decide) _ _ 0
  case blank32 | blank64 =>
    intro m
    rw [← millBeltBytes_eq_flatMap]
    exact emits_encodeCode (by decide) _ 0

/-! ## What the pseudo-commands do (R86) -/

/-- INIT without an operand leaves a READY context, whatever it finds (R24). -/
theorem engineBody_init (e : Engine) (n : Nat) (C : EngineCtx e) :
    ∃ D : EngineCtx e, engineBody .init e [] n C = .ok (D, []) ∧ D.phase = .ready := by
  cases e with
  | tiger | tiger2 | rg32 | rg64 => exact ⟨_, rfl, rfl⟩

/-- SAVE of an initialised context answers an image and keeps the context, and LOAD of that image restores it from any
other (R112, R114, R236, R238). -/
theorem engineBody_load_of_save {e : Engine} {C : EngineCtx e} (hInv : C.Inv) (hphase : C.phase ≠ .uninit) (n : Nat) :
    ∃ img, engineBody .save e [] n C = .ok (C, img) ∧ ∀ m D, engineBody .load e img m D = .ok (C, []) := by
  cases e with
  | tiger | tiger2 =>
    have hlimit : (TigerCtx.totalLength C).toNat ≤ Config.tigerLengthLimit :=
      Nat.le_pred_of_lt (TigerCtx.totalLength C).isLt
    exact ⟨_, tigerSave_eq_ok.mpr ⟨rfl, hphase, rfl, rfl⟩, fun _ _ => tigerLoad_tigerImage _ hInv hphase hlimit⟩
  | rg32 | rg64 =>
    exact ⟨_, rgSave_eq_ok.mpr ⟨rfl, hphase, rfl, rfl⟩,
      fun _ _ => rgLoad_rgImage (by norm_num) (by decide) _ hInv hphase⟩

/-- A decoded command whose body ends OK writes the body's context and completes. -/
theorem exec_of_instrOf_ok {op : Op} {e : Engine} {arg res : Bytes} {n : Nat} {i : Instr} {s : State}
    {C : EngineCtx e} (hi : instrOf op e arg n = .ok i) (h : engineBody op e arg n (s.ctxOf e) = .ok (C, res)) :
    exec i s = .next ((s.putCtx e C).complete res) := by
  rw [exec_of_instrOf hi, h, settle_ok]

/-- Settles O57: every command completes, so HASH runs to its FINALIZE; the image of CLONE is that of
`engineBody_load_of_save`; RESET is INIT. -/
theorem pseudoCommandsDoWhatR86Says : Obligations.PseudoCommandsDoWhatR86Says := by
  unfold Obligations.PseudoCommandsDoWhatR86Says
  refine ⟨fun e d s => ⟨rfl, ?hash⟩, fun e s hInv hphase => ⟨rfl, ?clone⟩, fun e s => ⟨rfl, ?reset⟩⟩
  case hash =>
    obtain ⟨s', hinit, -⟩ := exec_completes (initOf e) s
    obtain ⟨u, habsorb, -⟩ := exec_completes (absorbOf e (asmBytes d)) s'
    obtain ⟨t, hfinalize, -⟩ := exec_completes (finalizeOf e) u
    have hrun (is : List Instr) : execAll (initOf e :: absorbOf e (asmBytes d) :: is) s = execAll is u :=
      (execAll_cons_of_next hinit).trans (execAll_cons_of_next habsorb)
    exact ⟨_, _, _, u, t, decode_asmHash e d, hrun [], (instrOf_eq_ok.mp (instrOf_finalize e)).1, hfinalize,
      (hrun _).trans (execAll_cons_of_next hfinalize)⟩
  case clone =>
    have hctx := ((State.inv_iff s).mp hInv).1 e
    obtain ⟨img, hsave, hload⟩ := engineBody_load_of_save hctx (s.phaseOf_eq e ▸ hphase) 0
    refine ⟨_, img, decode_asmClone e, ?_, fun u => ?_⟩
    · rw [exec_of_instrOf_ok (instrOf_save e) hsave, State.putCtx_ctxOf]
      rfl
    · have hnames : NamesCommand .load e := namesCommand_of_ne_blank (by decide)
      obtain ⟨j, hj⟩ := exists_instrOf hnames img 0
      refine ⟨j, _, decode_of_instrOf hj, exec_of_instrOf_ok hj (hload 0 _), rfl, ?_⟩
      rw [State.sameCtx_iff, State.ctxOf_complete, State.ctxOf_putCtx]
  case reset =>
    obtain ⟨D, hbody, hready⟩ := engineBody_init e 0 (s.ctxOf e)
    refine ⟨_, _, decode_asmReset e, exec_of_instrOf_ok (instrOf_init e) hbody, rfl, ?_⟩
    rw [State.phaseOf_eq, State.ctxOf_complete, State.ctxOf_putCtx, hready]

end Sys2Proof.Machine
end

section
/-! Operands taken block by block. ABSORB's loop takes one byte at a time and folds a block in as soon as it is full;
the rules R111 and R228 fold in the whole blocks of a message. Both are stated here for any block size and any way to
fold a block in, so that each engine's loop is one case of them; then the blocks and the pad of the Tiger engines, and
the obligation O35. -/

namespace Sys2Proof.Machine

/-- A step `f m s o` that folds the `c` bytes of `s` from offset `o` into `m`, and looks at no others. -/
structure ReadsBlock {α : Type} (c : Nat) (f : α → Bytes → Nat → α) : Prop where
  left : ∀ m s t o, o + c ≤ s.length → f m (s ++ t) o = f m s o
  right : ∀ m s t o, f m (s ++ t) (s.length + o) = f m t o

/-- The whole blocks of `s` folded in, in order (R111, R228). -/
def foldBlocks {α : Type} (c : Nat) (f : α → Bytes → Nat → α) (m : α) (s : Bytes) : α :=
  (List.range (s.length / c)).foldl (fun m k => f m s (c * k)) m

/-- The bytes past the last whole block. -/
def blocksRest (c : Nat) (s : Bytes) : Bytes := s.drop (c * (s.length / c))

/-- One turn of ABSORB's loop (R104, R222). -/
def takeByteInto {α : Type} (c : Nat) (f : α → Bytes → Nat → α) (m : α × Bytes) (x : Byte) : α × Bytes :=
  if m.2.length + 1 = c then (f m.1 (m.2 ++ [x]) 0, []) else (m.1, m.2 ++ [x])

theorem length_blocksRest (c : Nat) (s : Bytes) : (blocksRest c s).length = s.length % c := by
  have := Nat.div_add_mod s.length c
  rw [blocksRest, List.length_drop]
  omega

theorem blocksRest_of_lt {c : Nat} {s : Bytes} (h : s.length < c) : blocksRest c s = s := by
  rw [blocksRest, Nat.div_eq_of_lt h, Nat.mul_zero, List.drop_zero]

theorem exists_whole_append_blocksRest (c : Nat) (s : Bytes) :
    ∃ whole : Bytes, c ∣ whole.length ∧ whole ++ blocksRest c s = s := by
  refine ⟨s.take (c * (s.length / c)), ?_, List.take_append_drop _ s⟩
  rw [List.length_take_of_le (Nat.mul_div_le _ _)]
  exact Nat.dvd_mul_right c _

theorem blocksRest_append {c : Nat} {s : Bytes} (h : c ∣ s.length) (t : Bytes) :
    blocksRest c (s ++ t) = blocksRest c t := by
  rw [blocksRest, blocksRest, List.length_append, Nat.add_div_of_dvd_right h, Nat.mul_add, Nat.mul_div_cancel' h,
    List.drop_length_add_append]

section
variable {α : Type} {c : Nat} {f : α → Bytes → Nat → α}

theorem foldBlocks_of_lt {s : Bytes} (h : s.length < c) (m : α) : foldBlocks c f m s = m := by
  rw [foldBlocks, Nat.div_eq_of_lt h]
  rfl

theorem foldBlocks_of_length_eq {s : Bytes} (hc : 0 < c) (h : s.length = c) (m : α) : foldBlocks c f m s = f m s 0 := by
  rw [foldBlocks, h, Nat.div_self hc]
  rfl

/-- Folding in the first `n` blocks looks at no byte past them. -/
theorem foldl_range_append_left (hf : ReadsBlock c f) {s : Bytes} (t : Bytes) {n : Nat} (hn : c * n ≤ s.length)
    (m : α) :
    (List.range n).foldl (fun m k => f m (s ++ t) (c * k)) m = (List.range n).foldl (fun m k => f m s (c * k)) m := by
  refine List.foldl_ext _ _ m fun m' k hk => hf.left m' s t _ ?_
  calc c * k + c = c * (k + 1) := (Nat.mul_succ c k).symm
    _ ≤ c * n := Nat.mul_le_mul_left c (List.mem_range.mp hk)
    _ ≤ s.length := hn

/-- The blocks of `s` first, if `s` ends on a block, then those of `t`. -/
theorem foldBlocks_append (hf : ReadsBlock c f) {s : Bytes} (h : c ∣ s.length) (m : α) (t : Bytes) :
    foldBlocks c f m (s ++ t) = foldBlocks c f (foldBlocks c f m s) t := by
  have hlen : c * (s.length / c) = s.length := Nat.mul_div_cancel' h
  simp only [foldBlocks]
  rw [List.length_append, Nat.add_div_of_dvd_right h, List.range_add, List.foldl_append, List.foldl_map,
    foldl_range_append_left hf t hlen.le]
  refine List.foldl_ext _ _ _ fun m' k _ => ?_
  rw [Nat.mul_add, hlen, hf.right]

/-- What follows a sequence is folded in together with the bytes past its last whole block. -/
theorem foldBlocks_append_rest (hf : ReadsBlock c f) (hc : 0 < c) (m : α) (s t : Bytes) :
    foldBlocks c f m (s ++ t) = foldBlocks c f (foldBlocks c f m s) (blocksRest c s ++ t) := by
  obtain ⟨whole, hdvd, hsplit⟩ := exists_whole_append_blocksRest c s
  have hrest : (blocksRest c s).length < c := length_blocksRest c s ▸ Nat.mod_lt _ hc
  have hfold : foldBlocks c f m s = foldBlocks c f m whole := by
    rw [← hsplit, foldBlocks_append hf hdvd, foldBlocks_of_lt hrest]
  rw [hfold, ← foldBlocks_append hf hdvd, ← List.append_assoc, hsplit]

/-- ABSORB's loop folds in the whole blocks of the pending bytes and the operand together, and keeps the rest. -/
theorem foldl_takeByteInto (hf : ReadsBlock c f) (m : α) {pb : Bytes} (h : pb.length < c) (s : Bytes) :
    s.foldl (takeByteInto c f) (m, pb) = (foldBlocks c f m (pb ++ s), blocksRest c (pb ++ s)) := by
  induction s generalizing m pb with
  | nil => rw [List.append_nil, foldBlocks_of_lt h, blocksRest_of_lt h, List.foldl_nil]
  | cons x s ih =>
    have hsplit : pb ++ x :: s = (pb ++ [x]) ++ s := (List.append_assoc pb [x] s).symm
    have hlen : (pb ++ [x]).length = pb.length + 1 := List.length_append
    rw [hsplit, List.foldl_cons, takeByteInto]
    split
    next hfull =>
      have hblock : (pb ++ [x]).length = c := hlen.trans hfull
      have hdvd : c ∣ (pb ++ [x]).length := hblock ▸ dvd_rfl
      have hc : 0 < c := Nat.zero_lt_of_lt h
      rw [ih (pb := []) _ hc, List.nil_append, foldBlocks_append hf hdvd,
        foldBlocks_of_length_eq hc hblock, blocksRest_append hdvd]
    next hopen =>
      have hlt : (pb ++ [x]).length < c := hlen ▸ Nat.lt_of_le_of_ne h hopen
      exact ih m hlt

end

/-! ## Tiger (R104, R111) -/

theorem blockAt_append_left {s : Bytes} (t : Bytes) {o : Nat} (h : o + 64 ≤ s.length) :
    blockAt (s ++ t) o = blockAt s o := by
  unfold blockAt
  congr 1 <;> exact leLoad_append_left 64 s t _ (by omega)

theorem blockAt_append_right (s t : Bytes) (o : Nat) : blockAt (s ++ t) (s.length + o) = blockAt t o := by
  simp only [blockAt, Nat.add_assoc, leLoad_append_right]

/-- The compression of the block at an offset. -/
def tigerCompressAt (S : Sbox) (h : Chain) (s : Bytes) (o : Nat) : Chain := tigerCompressWith S h (blockAt s o)

theorem tigerCompressAt_readsBlock (S : Sbox) : ReadsBlock 64 (tigerCompressAt S) where
  left h _ t _ ho := congrArg (tigerCompressWith S h) (blockAt_append_left t ho)
  right h _ t _ := congrArg (tigerCompressWith S h) (blockAt_append_right _ t _)

section
variable (S : Sbox) (h : Chain)

theorem tigerBlocks_append {s : Bytes} (hs : 64 ∣ s.length) (t : Bytes) :
    tigerBlocks S h (s ++ t) = tigerBlocks S (tigerBlocks S h s) t :=
  foldBlocks_append (tigerCompressAt_readsBlock S) hs h t

theorem tigerBlocks_append_rest (s t : Bytes) :
    tigerBlocks S h (s ++ t) = tigerBlocks S (tigerBlocks S h s) (blocksRest 64 s ++ t) :=
  foldBlocks_append_rest (tigerCompressAt_readsBlock S) (by norm_num) h s t

/-- One block is one compression. -/
theorem tigerBlocks_of_length_eq {s : Bytes} (hs : s.length = 64) :
    tigerBlocks S h s = tigerCompressWith S h (blockAt s 0) :=
  foldBlocks_of_length_eq (f := tigerCompressAt S) (by norm_num) hs h

theorem tigerTakeBytes_eq_blocks {pb : Bytes} (hfill : pb.length < 64) (arg : Bytes) :
    tigerTakeBytes S (h, pb) arg = (tigerBlocks S h (pb ++ arg), blocksRest 64 (pb ++ arg)) :=
  foldl_takeByteInto (tigerCompressAt_readsBlock S) h hfill arg

end

/-- ABSORB, byte by byte, is ABSORB block by block (R104). -/
theorem tigerAbsorbed_eq_byBlocks (S : Sbox) {C : TigerCtx} (hfill : C.pb.length < 64) (arg : Bytes) :
    tigerAbsorbed S C arg = tigerAbsorbedByBlocks S C arg := by
  have hphase : (if 0 < arg.length then Phase.accum else C.phase) = if arg = [] then C.phase else .accum := by
    simpa only [List.length_eq_zero_iff] using absorbedPhase_eq arg C.phase
  have htotal : C.totalLength + BitVec.ofNat 64 arg.length = BitVec.ofNat 64 (C.totalLength.toNat + arg.length) := by
    rw [BitVec.ofNat_add, BitVec.ofNat_toNat, BitVec.setWidth_eq]
  rw [tigerAbsorbed, tigerTakeBytes_eq_blocks S C.cv hfill, hphase, htotal]
  rfl

/-! ## The pad (R106, R107, R110) -/

/-- The tail FINALIZE compresses ends on a block: two if the marker stands past byte 55, else one. -/
theorem tigerFinalChain_eq_blocks (S : Sbox) (e : Engine) {C : TigerCtx} (hfill : C.pb.length < 64) :
    tigerFinalChain S e C = tigerBlocks S C.cv
      (C.pb ++ [padByte e] ++ zeros ((55 - (C.pb.length : Int)) % 64).toNat ++ leStore (8 * C.totalLength)) := by
  have hmarked : (C.pb ++ [padByte e]).length = C.pb.length + 1 := List.length_append
  unfold tigerFinalChain tigerLengthField
  by_cases hlong : 56 < (C.pb ++ [padByte e]).length
  · have hzeros : zeros ((55 - (C.pb.length : Int)) % 64).toNat
        = zeros (64 - (C.pb ++ [padByte e]).length) ++ zeros 56 := by
      rw [zeros, zeros, zeros, List.replicate_append_replicate]
      congr 1
      omega
    have hfirst : (C.pb ++ [padByte e] ++ zeros (64 - (C.pb ++ [padByte e]).length)).length = 64 := by
      rw [List.length_append, length_zeros]
      omega
    have hsecond : (zeros 56 ++ leStore (8 * C.totalLength)).length = 64 := by simp
    rw [if_pos hlong, hzeros, ← List.append_assoc _ (zeros _), List.append_assoc _ (zeros 56),
      tigerBlocks_append _ _ (Dvd.intro 1 hfirst.symm), tigerBlocks_of_length_eq _ _ hfirst,
      tigerBlocks_of_length_eq _ _ hsecond]
  · have hzeros : ((55 - (C.pb.length : Int)) % 64).toNat = 56 - (C.pb ++ [padByte e]).length := by omega
    have hblock : (C.pb ++ [padByte e] ++ zeros (56 - (C.pb ++ [padByte e]).length)
        ++ leStore (8 * C.totalLength)).length = 64 := by
      rw [List.length_append, List.length_append, length_zeros, length_leStore]
      omega
    rw [if_neg hlong, hzeros, tigerBlocks_of_length_eq _ _ hblock]

theorem length_tigerPad (e : Engine) (n : Nat) : (tigerPad e n).length = 9 + ((55 - (n : Int)) % 64).toNat := by
  simp only [tigerPad, List.length_append, List.length_singleton, length_zeros, length_leStore]
  omega

/-- Settles O35: by the length of the pad. -/
theorem tigerPadEndsTheMessageOnABlock : Obligations.TigerPadEndsTheMessageOnABlock := by
  unfold Obligations.TigerPadEndsTheMessageOnABlock
  intro e n
  have hlen := length_tigerPad e n
  refine ⟨?_, ?_, ?_, fun _ => ?_, fun _ => ?_⟩ <;> omega

end Sys2Proof.Machine
end

section
/-! The commands of the Tiger engines (40_tiger_engine.md): each body's faults and its result in the form the statements
give them, then the statements at both engines. -/

namespace Sys2Proof.Machine

/-! ## INIT and the faults of FINALIZE, SAVE and LOAD -/

section
variable {α : Type} {b : Except Status α}

/-- A fault in the length of the operand comes before all others (R268, R270). -/
theorem requireLength_zero_error {arg : Bytes} (h : arg ≠ []) : requireLength 0 arg b = .error .operandLength :=
  requireLength_of_ne (mt List.length_eq_zero_iff.mp h)

/-- The output length is looked at on an initialised context, after the operand (R265, R270). -/
theorem requireOutlen_error {ph : Phase} {n outlen : Nat} (hphase : ph ≠ .uninit) (hlen : outlen ≠ n) :
    requireLength 0 [] (requireInit ph (requireOutlen n outlen b)) = .error .sizeMismatch :=
  requireLength_eq_error.mpr (.inr ⟨rfl, requireInit_eq_error.mpr (.inr ⟨hphase, requireOutlen_eq_error.mpr
    (.inl ⟨hlen, rfl⟩)⟩)⟩)

end

/-- Settles O15: INIT looks at its operand's length alone. -/
theorem tigerInitWritesTheInitContext : Obligations.TigerInitWritesTheInitContext := by
  unfold Obligations.TigerInitWritesTheInitContext
  intro s arg n
  exact ⟨rfl, rfl, fun harg => ⟨exec_of_body_error (st := .operandLength) (requireLength_zero_error harg),
    exec_of_body_error (st := .operandLength) (requireLength_zero_error harg)⟩⟩

/-! ## ABSORB (R104, R266) -/

/-- ABSORB within 2^64 - 1 bytes, block by block. -/
theorem tigerAbsorb_eq_byBlocks (S : Sbox) {C : TigerCtx} {arg : Bytes} (hphase : C.phase ≠ .uninit)
    (hlimit : C.totalLength.toNat + arg.length < 2 ^ 64) (hfill : C.pb.length < 64) :
    tigerAbsorb S Config.tigerLengthLimit C arg = .ok (tigerAbsorbedByBlocks S C arg, []) :=
  tigerAbsorb_eq_ok.mpr ⟨hphase, Nat.le_pred_of_lt hlimit, (tigerAbsorbed_eq_byBlocks S hfill arg).symm, rfl⟩

/-- ABSORB past 2^64 - 1 bytes. -/
theorem tigerAbsorb_past_limit (S : Sbox) {C : TigerCtx} {arg : Bytes} (hphase : C.phase ≠ .uninit)
    (hlimit : 2 ^ 64 ≤ C.totalLength.toNat + arg.length) :
    tigerAbsorb S Config.tigerLengthLimit C arg = .error .inputTooLarge :=
  tigerAbsorb_eq_inputTooLarge.mpr ⟨hphase, Nat.lt_of_lt_of_le (by decide) hlimit⟩

/-- Settles O17: the faults and the block form of the one ABSORB body, at both engines. -/
theorem tigerAbsorbTakesWholeBlocks : Obligations.TigerAbsorbTakesWholeBlocks := by
  unfold Obligations.TigerAbsorbTakesWholeBlocks
  intro s arg n
  refine ⟨⟨fun hphase => ?_, fun hphase hlimit => ?_, fun hphase hlimit hfill => ?_⟩,
    fun hphase => ?_, fun hphase hlimit => ?_, fun hphase hlimit hfill => ?_⟩
  · exact exec_of_body_error (st := .notInitialized) (engineBody_uninit .tiger hphase (.inl rfl))
  · exact exec_of_body_error (st := .inputTooLarge) (tigerAbsorb_past_limit tigerSbox hphase hlimit)
  · exact exec_of_body_ok (tigerAbsorb_eq_byBlocks tigerSbox hphase hlimit hfill)
  · exact exec_of_body_error (st := .notInitialized) (engineBody_uninit .tiger2 hphase (.inl rfl))
  · exact exec_of_body_error (st := .inputTooLarge) (tigerAbsorb_past_limit tigerSbox hphase hlimit)
  · exact exec_of_body_ok (tigerAbsorb_eq_byBlocks tigerSbox hphase hlimit hfill)

/-! ## FINALIZE (R106, R108, R109) -/

/-- FINALIZE with a buffer of the digest's size, block by block. -/
theorem tigerFinalize_eq_byBlocks (S : Sbox) (e : Engine) {C : TigerCtx} (hphase : C.phase ≠ .uninit)
    (hfill : C.pb.length < 64) :
    tigerFinalize S e C [] 24 = .ok (tigerInitCtx, chainBytes (tigerBlocks S C.cv
      (C.pb ++ [padByte e] ++ zeros ((55 - (C.pb.length : Int)) % 64).toNat ++ leStore (8 * C.totalLength)))) :=
  tigerFinalize_eq_ok.mpr ⟨rfl, hphase, rfl, rfl, congrArg chainBytes (tigerFinalChain_eq_blocks S e hfill).symm⟩

/-- Settles O19: the faults and the block form of the one FINALIZE body, with each engine's marker. -/
theorem tigerFinalizePadsAndReturnsTheDigest : Obligations.TigerFinalizePadsAndReturnsTheDigest := by
  unfold Obligations.TigerFinalizePadsAndReturnsTheDigest
  constructor
  · intro s arg n
    exact ⟨fun harg => exec_of_body_error (st := .operandLength) (requireLength_zero_error harg),
      fun hphase => exec_of_body_error (st := .notInitialized) (requireLength_requireInit_error hphase),
      fun hphase hlen => exec_of_body_error (st := .sizeMismatch) (requireOutlen_error hphase hlen),
      fun hphase hfill => exec_of_body_ok (tigerFinalize_eq_byBlocks tigerSbox .tiger hphase hfill)⟩
  · intro s arg n
    exact ⟨fun harg => exec_of_body_error (st := .operandLength) (requireLength_zero_error harg),
      fun hphase => exec_of_body_error (st := .notInitialized) (requireLength_requireInit_error hphase),
      fun hphase hlen => exec_of_body_error (st := .sizeMismatch) (requireOutlen_error hphase hlen),
      fun hphase hfill => exec_of_body_ok (tigerFinalize_eq_byBlocks tigerSbox .tiger2 hphase hfill)⟩

/-! ## SAVE (R112, R113) -/

/-- An initialised context is READY or in ACCUM (R24). -/
theorem phaseCode_of_ne_uninit {ph : Phase} (h : ph ≠ .uninit) : phaseCode ph = if ph = .ready then 1 else 2 := by
  cases ph with
  | uninit => exact absurd rfl h
  | ready | accum => rfl

/-- SAVE of an initialised context answers its image, whose first byte is 1 or 2. -/
theorem tigerSave_eq_image (e : Engine) {C : TigerCtx} (hphase : C.phase ≠ .uninit) :
    tigerSave e C [] = .ok (C, [if C.phase = .ready then 1 else 2, BitVec.ofNat 8 C.pb.length, engineByte e] ++ zeros 5
      ++ chainBytes C.cv ++ leStore C.totalLength ++ C.pb ++ zeros (64 - C.pb.length)) :=
  tigerSave_eq_ok.mpr ⟨rfl, hphase, rfl, by rw [tigerImage, phaseCode_of_ne_uninit hphase]⟩

/-- Settles O24: the faults and the image of the one SAVE body, with each engine's number. -/
theorem tigerSaveReturnsTheImage : Obligations.TigerSaveReturnsTheImage := by
  unfold Obligations.TigerSaveReturnsTheImage
  constructor
  · intro s arg n
    exact ⟨fun harg => exec_of_body_error (st := .operandLength) (requireLength_zero_error harg),
      fun hphase => exec_of_body_error (st := .notInitialized) (requireLength_requireInit_error hphase),
      fun hphase => exec_of_body_ok (tigerSave_eq_image .tiger hphase)⟩
  · intro s arg n
    exact ⟨fun harg => exec_of_body_error (st := .operandLength) (requireLength_zero_error harg),
      fun hphase => exec_of_body_error (st := .notInitialized) (requireLength_requireInit_error hphase),
      fun hphase => exec_of_body_ok (tigerSave_eq_image .tiger2 hphase)⟩

/-! ## LOAD (R114, R115) -/

theorem getD_zeros (n k : Nat) : (zeros n).getD k 0 = 0 := by
  rw [zeros, List.getD_eq_getElem?_getD, List.getElem?_replicate]
  split <;> rfl

/-- The five bytes of a header that must be zero (R114). -/
theorem slice_eq_zeros_iff {img : Bytes} (hlen : 8 ≤ img.length) :
    slice img 3 8 = zeros 5 ↔ ∀ k < 8, 3 ≤ k → img.getD k 0 = 0 := by
  constructor
  · intro h k hk8 hk3
    have hbyte := getD_slice img 3 5 (k - 3) (by omega)
    rwa [h, getD_zeros, Nat.add_sub_cancel' hk3, eq_comm] at hbyte
  · intro h
    refine List.ext_getElem (by simp; omega) fun k hk hk5 => ?_
    rw [length_zeros] at hk5
    rw [← List.getD_eq_getElem _ 0 hk, getD_slice img 3 5 k hk5, h (3 + k) (by omega) (by omega), ← getD_zeros 5 k,
      List.getD_eq_getElem]

theorem chainAt_eq_tigerIV_iff {img : Bytes} :
    chainAt img 8 = tigerIV ↔ leLoad 64 img 8 = 0x0123456789ABCDEF
      ∧ leLoad 64 img 16 = 0xFEDCBA9876543210 ∧ leLoad 64 img 24 = 0xF096A5B4C3B2E187 :=
  Chain.mk.injEq .. ▸ Iff.rfl

/-- LOAD's checks are those of R114. -/
theorem tigerImageValid_iff_accepted (e : Engine) {img : Bytes} (hlen : img.length = 104) :
    tigerImageValid Config.tigerLengthLimit e img = true ↔ tigerImageAccepted (engineByte e) img := by
  have hzero : (tigerImageLength img).toNat = 0 ↔ leLoad 64 img 32 = 0 := BitVec.toNat_inj (y := 0)
  rw [tigerImageValid_iff, slice_eq_zeros_iff (by omega), chainAt_eq_tigerIV_iff, ne_eq, hzero]
  rfl

/-- LOAD of an operand of the right length is decided by the checks of R114. -/
theorem tigerLoad_accepted (e : Engine) {arg : Bytes} (hlen : arg.length = 104)
    (h : tigerImageAccepted (engineByte e) arg) :
    tigerLoad Config.tigerLengthLimit e arg = .ok
      ({ phase := if arg.getD 0 0 = 1 then .ready else .accum
         pb := (arg.drop 40).take (arg.getD 1 0).toNat
         cv := { a := leLoad 64 arg 8, b := leLoad 64 arg 16, c := leLoad 64 arg 24 }
         totalLength := leLoad 64 arg 32 }, []) := by
  have hpb : (arg.drop 40).take (arg.getD 1 0).toNat = slice arg 40 (40 + imageFill arg) := by
    rw [slice, Nat.add_sub_cancel_left, imageFill]
  rw [hpb]
  exact tigerLoad_eq_ok.mpr ⟨hlen, (tigerImageValid_iff_accepted e hlen).mpr h, rfl, rfl⟩

theorem tigerLoad_rejected (e : Engine) {arg : Bytes} (hlen : arg.length = 104)
    (h : ¬ tigerImageAccepted (engineByte e) arg) :
    tigerLoad Config.tigerLengthLimit e arg = .error .badContext :=
  requireLength_eq_error.mpr (.inr ⟨hlen, requireImage_eq_error.mpr
    (.inl ⟨Bool.eq_false_of_not_eq_true (mt (tigerImageValid_iff_accepted e hlen).mp h), rfl⟩)⟩)

/-- Settles O26: the one LOAD body, with each engine's number. -/
theorem tigerLoadAcceptsExactlyTheValidImages : Obligations.TigerLoadAcceptsExactlyTheValidImages := by
  unfold Obligations.TigerLoadAcceptsExactlyTheValidImages
  constructor
  · intro s arg n
    exact ⟨fun hlen => exec_of_body_error (st := .operandLength) (requireLength_of_ne hlen),
      fun hlen h => exec_of_body_error (st := .badContext) (tigerLoad_rejected .tiger hlen h),
      fun hlen h => exec_of_body_ok (tigerLoad_accepted .tiger hlen h)⟩
  · intro s arg n
    exact ⟨fun hlen => exec_of_body_error (st := .operandLength) (requireLength_of_ne hlen),
      fun hlen h => exec_of_body_error (st := .badContext) (tigerLoad_rejected .tiger2 hlen h),
      fun hlen h => exec_of_body_ok (tigerLoad_accepted .tiger2 hlen h)⟩

end Sys2Proof.Machine
end

section
/-! What LOAD reads of an image (R114, R238): nothing past the last valid pending byte; then the
obligation O30. -/

namespace Sys2Proof.Machine

/-! ## Sequences that agree up to some byte -/

section
variable {x y : Bytes} {n : Nat} (h : x.take n = y.take n)
include h

theorem slice_eq_of_take_eq {i j : Nat} (hj : j ≤ n) : slice x i j = slice y i j := by
  have hprefix (s : Bytes) : slice s i j = slice (s.take n) i j := by
    rw [slice, slice, List.drop_take, List.take_take, Nat.min_eq_left (Nat.sub_le_sub_right hj i)]
  rw [hprefix x, h, ← hprefix y]

theorem leLoad_eq_of_take_eq {w o : Nat} (ho : o + w / 8 ≤ n) : leLoad w x o = leLoad w y o := by
  rw [leLoad, slice_eq_of_take_eq h ho, ← leLoad]

theorem getD_eq_of_take_eq {k : Nat} (hk : k < n) : x.getD k 0 = y.getD k 0 := by
  have hprefix (s : Bytes) : s.getD k 0 = (s.take n).getD k 0 := by
    rw [List.getD_eq_getElem?_getD, List.getD_eq_getElem?_getD, List.getElem?_take_of_lt hk]
  rw [hprefix x, h, ← hprefix y]

theorem chainAt_eq_of_take_eq {o : Nat} (ho : o + 24 ≤ n) : chainAt x o = chainAt y o := by
  unfold chainAt
  congr 1 <;> exact leLoad_eq_of_take_eq h (by omega)

theorem wordsAt_eq_of_take_eq {W k o : Nat} (ho : o + rgWordBytes W * k ≤ n) : wordsAt W k x o = wordsAt W k y o := by
  unfold wordsAt
  congr 1
  funext i
  have hword : rgWordBytes W * (i.val + 1) ≤ rgWordBytes W * k := Nat.mul_le_mul_left _ i.isLt
  rw [Nat.mul_succ] at hword
  exact leLoad_eq_of_take_eq h (by unfold rgWordBytes at *; omega)

theorem millBeltAt_eq_of_take_eq {W o : Nat} (ho : o + 58 * rgWordBytes W ≤ n) :
    millBeltAt W x o = millBeltAt W y o := by
  unfold millBeltAt
  rw [wordsAt_eq_of_take_eq h (by omega), wordsAt_eq_of_take_eq h (by omega)]

end

/-! ## LOAD -/

/-- A Tiger LOAD reads the 40 bytes before the pending block and the valid pending bytes. -/
theorem tigerLoad_eq_of_take_eq {limit : Nat} (e : Engine) {x y : Bytes} (hx : x.length = 104) (hy : y.length = 104)
    (h : x.take (40 + imageFill x) = y.take (40 + imageFill x)) : tigerLoad limit e x = tigerLoad limit e y := by
  have hbyte (k : Nat) (hk : k < 40) : x.getD k 0 = y.getD k 0 := getD_eq_of_take_eq h (by omega)
  have hfill : imageFill x = imageFill y := congrArg BitVec.toNat (hbyte 1 (by decide))
  have hreserved : slice x 3 8 = slice y 3 8 := slice_eq_of_take_eq h (by omega)
  have hchain : chainAt x 8 = chainAt y 8 := chainAt_eq_of_take_eq h (by omega)
  have hlength : tigerImageLength x = tigerImageLength y := leLoad_eq_of_take_eq h (by omega)
  have hpb : slice x 40 (40 + imageFill y) = slice y 40 (40 + imageFill y) := slice_eq_of_take_eq h (by omega)
  rw [tigerLoad, tigerLoad, requireLength_of_eq hx, requireLength_of_eq hy]
  simp only [tigerImageValid, tigerImageCtx, hbyte 0 (by decide), hbyte 2 (by decide), hreserved, hchain, hlength, hpb,
    hfill]

/-- A RadioGatun LOAD reads the header, the mill, the belt and the valid pending bytes. -/
theorem rgLoad_eq_of_take_eq {W : Nat} (e : Engine) {x y : Bytes} (hx : x.length = rgImageBytes W)
    (hy : y.length = rgImageBytes W)
    (h : x.take (8 + 58 * rgWordBytes W + imageFill x) = y.take (8 + 58 * rgWordBytes W + imageFill x)) :
    rgLoad W e x = rgLoad W e y := by
  have hbyte (k : Nat) (hk : k < 8) : x.getD k 0 = y.getD k 0 := getD_eq_of_take_eq h (by omega)
  have hfill : imageFill x = imageFill y := congrArg BitVec.toNat (hbyte 1 (by decide))
  have hreserved : slice x 3 8 = slice y 3 8 := slice_eq_of_take_eq h (by omega)
  have hwords : millBeltAt W x 8 = millBeltAt W y 8 := millBeltAt_eq_of_take_eq h (by omega)
  have hpb : slice x (8 + 58 * rgWordBytes W) (8 + 58 * rgWordBytes W + imageFill y)
      = slice y (8 + 58 * rgWordBytes W) (8 + 58 * rgWordBytes W + imageFill y) := slice_eq_of_take_eq h (by omega)
  rw [rgLoad, rgLoad, requireLength_of_eq hx, requireLength_of_eq hy]
  simp only [rgImageValid, rgImageCtx, hbyte 0 (by decide), hbyte 2 (by decide), hreserved, hwords, hpb, hfill]

/-- Settles O30: the LOAD bodies of the two images are the same. -/
theorem loadIgnoresTheBytesPastFill : Obligations.LoadIgnoresTheBytesPastFill := by
  unfold Obligations.LoadIgnoresTheBytesPastFill
  intro s x y n m
  refine ⟨fun hx hy h => ⟨?tiger, ?tiger2⟩, fun hx hy h => ?rg32, fun hx hy h => ?rg64⟩
  case tiger => exact congrArg (s.settle s.setTiger) (tigerLoad_eq_of_take_eq .tiger hx hy h)
  case tiger2 => exact congrArg (s.settle s.setTiger2) (tigerLoad_eq_of_take_eq .tiger2 hx hy h)
  case rg32 => exact congrArg (s.settle s.setRg32) (rgLoad_eq_of_take_eq .rg32 hx hy h)
  case rg64 => exact congrArg (s.settle s.setRg64) (rgLoad_eq_of_take_eq .rg64 hx hy h)

end Sys2Proof.Machine
end

section
/-! Streams of commands on one engine: INIT, ABSORBs and FINALIZE, for all four engines; then what they give the Tiger
engines, and that the two Tiger engines differ in the marker byte alone. -/

namespace Sys2Proof.Machine

/-! ## INIT, then ABSORBs, then FINALIZE -/

/-- The INIT context of an engine (R102, R220). -/
def initCtxOf : (e : Engine) → EngineCtx e
  | .tiger => tigerInitCtx
  | .tiger2 => tigerInitCtx
  | .rg32 => rgInitCtx 32
  | .rg64 => rgInitCtx 64

theorem initCtxOf_phase (e : Engine) : (initCtxOf e).phase = .ready := by
  cases e with
  | tiger | tiger2 | rg32 | rg64 => rfl

theorem exec_initOf (e : Engine) (s : State) :
    ∃ t, exec (initOf e) s = .next t ∧ t.ctxOf e = initCtxOf e := by
  cases e with
  | tiger | tiger2 | rg32 | rg64 => exact ⟨_, rfl, rfl⟩

/-- A FINALIZE that completes OK leaves the INIT context (R106, R224). -/
theorem engineBody_finalize_ctx (e : Engine) {arg res : Bytes} {n : Nat} {C D : EngineCtx e}
    (h : engineBody .finalize e arg n C = .ok (D, res)) : D = initCtxOf e := by
  cases e with
  | tiger | tiger2 =>
    obtain ⟨-, -, -, rfl, -⟩ := tigerFinalize_eq_ok.mp h
    rfl
  | rg32 | rg64 =>
    obtain ⟨-, -, -, rfl, -⟩ := rgFinalize_eq_ok.mp h
    rfl

/-- INIT and a run of ABSORBs within the limit leave the INIT context with all their bytes absorbed. -/
theorem execAll_init_absorb (e : Engine) (parts : List Bytes) (s : State)
    (h : (initCtxOf e).Fits parts.flatten.length) :
    ∃ t, execAll (initOf e :: parts.map (absorbOf e)) s = .next t
      ∧ t.ctxOf e = (initCtxOf e).absorbed parts.flatten := by
  obtain ⟨s', hs', hctx⟩ := exec_initOf e s
  obtain ⟨t, ht, hwrites⟩ := execAll_absorbOf parts (hctx.symm ▸ h)
  refine ⟨t, (execAll_cons_of_next hs').trans ht, hwrites.own.trans ?_⟩
  rw [hctx, EngineCtx.afterAbsorb, if_neg (by simp [initCtxOf_phase])]

theorem execAll_append_of_next {is : List Instr} {s t : State} (h : execAll is s = .next t) (js : List Instr) :
    execAll (is ++ js) s = execAll js t := by
  induction is generalizing s with
  | nil => rw [List.nil_append, Host.Outcome.next.inj h]
  | cons i is ih =>
    obtain ⟨u, hu, -⟩ := exec_completes i s
    rw [List.cons_append, execAll_cons_of_next hu]
    exact ih ((execAll_cons_of_next hu).symm.trans h)

/-- A stream answers what FINALIZE makes of the INIT context with all its bytes absorbed. -/
theorem execAll_stream {e : Engine} {parts : List Bytes} {D : EngineCtx e} {res : Bytes} (s : State)
    (hfits : (initCtxOf e).Fits parts.flatten.length)
    (hbody : engineBody .finalize e [] (digestBytes e) ((initCtxOf e).absorbed parts.flatten) = .ok (D, res)) :
    ∃ t, execAll ([initOf e] ++ parts.map (absorbOf e) ++ [finalizeOf e]) s = .next t
      ∧ t.response = some { status := 0, res := res } := by
  obtain ⟨u, hu, hctx⟩ := execAll_init_absorb e parts s hfits
  rw [← hctx] at hbody
  exact ⟨_, (execAll_append_of_next hu _).trans (execAll_cons_of_next (exec_of_instrOf_ok (instrOf_finalize e) hbody)),
    rfl⟩

/-! ## FINALIZE after FINALIZE (R108, R226) -/

/-- The published digests of the empty message (95_test_vectors.md table 1.1). -/
def emptyDigest : Engine → Bytes
  | .tiger => [0x32, 0x93, 0xAC, 0x63, 0x0C, 0x13, 0xF0, 0x24, 0x5F, 0x92, 0xBB, 0xB1,
      0x76, 0x6E, 0x16, 0x16, 0x7A, 0x4E, 0x58, 0x49, 0x2D, 0xDE, 0x73, 0xF3]
  | .tiger2 => [0x44, 0x41, 0xBE, 0x75, 0xF6, 0x01, 0x87, 0x73, 0xC2, 0x06, 0xC2, 0x27,
      0x45, 0x37, 0x4B, 0x92, 0x4A, 0xA8, 0x31, 0x3F, 0xEF, 0x91, 0x9F, 0x41]
  | .rg32 => [0xF3, 0x00, 0x28, 0xB5, 0x4A, 0xFA, 0xB6, 0xB3, 0xE5, 0x53, 0x55, 0xD2, 0x77, 0x71, 0x11, 0x09,
      0xA1, 0x9B, 0xED, 0xA7, 0x09, 0x10, 0x67, 0xE9, 0xA4, 0x92, 0xFB, 0x5E, 0xD9, 0xF2, 0x01, 0x17]
  | .rg64 => [0x64, 0xA9, 0xA7, 0xFA, 0x13, 0x99, 0x05, 0xB5, 0x7B, 0xDA, 0xB3, 0x5D, 0x33, 0xAA, 0x21, 0x63,
      0x70, 0xD5, 0xEA, 0xE1, 0x3E, 0x77, 0xBF, 0xCD, 0xD8, 0x55, 0x13, 0x40, 0x83, 0x11, 0xA5, 0x84]

/-- FINALIZE of the INIT context is a closed computation, one for each engine. -/
theorem engineBody_finalize_init (e : Engine) :
    engineBody .finalize e [] (digestBytes e) (initCtxOf e) = .ok (initCtxOf e, emptyDigest e) := by
  cases e with
  | tiger =>
    have hdigest : emptyDigest .tiger = chainBytes (tigerFinalChain tigerSbox .tiger tigerInitCtx) := by decide +kernel
    exact tigerFinalize_eq_ok.mpr ⟨rfl, by decide, rfl, rfl, hdigest⟩
  | tiger2 =>
    have hdigest : emptyDigest .tiger2 = chainBytes (tigerFinalChain tigerSbox .tiger2 tigerInitCtx) := by
      decide +kernel
    exact tigerFinalize_eq_ok.mpr ⟨rfl, by decide, rfl, rfl, hdigest⟩
  | rg32 =>
    have hdigest : emptyDigest .rg32
        = rgOutput (roundIn (rgInitCtx 32).millBelt (wordsAt 32 3 (rgLastBlock .rg32 (rgInitCtx 32)) 0)) := by
      decide +kernel
    exact rgFinalize_eq_ok.mpr ⟨rfl, by decide, rfl, rfl, hdigest⟩
  | rg64 =>
    have hdigest : emptyDigest .rg64
        = rgOutput (roundIn (rgInitCtx 64).millBelt (wordsAt 64 3 (rgLastBlock .rg64 (rgInitCtx 64)) 0)) := by
      decide +kernel
    exact rgFinalize_eq_ok.mpr ⟨rfl, by decide, rfl, rfl, hdigest⟩

/-- Settles O34: the first FINALIZE leaves the INIT context, from which the second answers the digest. -/
theorem secondFinalizeReturnsTheEmptyDigest : Obligations.SecondFinalizeReturnsTheEmptyDigest := by
  unfold Obligations.SecondFinalizeReturnsTheEmptyDigest
  intro e s t h hok
  have hctx : t.ctxOf e = initCtxOf e := by
    rw [exec_of_instrOf (instrOf_finalize e)] at h
    rcases settle_cases h with ⟨C, res, hbody, rfl⟩ | ⟨st, hbody, rfl⟩
    · rw [State.ctxOf_complete, State.ctxOf_putCtx, engineBody_finalize_ctx e hbody]
    · exact absurd ((statusCode_eq_zero st).mp hok) (engineBody_error e hbody).1
  refine ⟨_, exec_of_instrOf_ok (instrOf_finalize e) (hctx.symm ▸ engineBody_finalize_init e), ?_⟩
  cases e with
  | tiger | tiger2 | rg32 | rg64 => rfl

/-! ## The hash of a whole message (R111) -/

/-- FINALIZE after a message is the hash of the message: its pad depends on the pending bytes as on the message, because
the two have the same length mod 64. -/
theorem tigerFinalChain_absorbed (S : Sbox) (e : Engine) (M : Bytes) :
    tigerFinalChain S e (tigerAbsorbed S tigerInitCtx M) = tigerBlocks S tigerIV (M ++ tigerPad e M.length) := by
  have habsorbed := tigerAbsorbed_eq_byBlocks S tigerInitCtx_inv.1 M
  have hpb : (tigerAbsorbed S tigerInitCtx M).pb = blocksRest 64 M := by rw [habsorbed]; rfl
  have hcv : (tigerAbsorbed S tigerInitCtx M).cv = tigerBlocks S tigerIV M := by rw [habsorbed]; rfl
  have hlength : 8 * (tigerAbsorbed S tigerInitCtx M).totalLength = BitVec.ofNat 64 (8 * M.length) := by
    rw [habsorbed, BitVec.ofNat_mul, tigerAbsorbedByBlocks, show tigerInitCtx.totalLength.toNat = 0 from rfl,
      Nat.zero_add]
    rfl
  have hrest : (blocksRest 64 M).length = M.length % 64 := length_blocksRest 64 M
  have hzeros : (55 - ((blocksRest 64 M).length : Int)) % 64 = (55 - (M.length : Int)) % 64 := by omega
  rw [tigerFinalChain_eq_blocks S e (by rw [hpb]; omega), hpb, hcv, hlength, hzeros, tigerPad]
  simp only [List.append_assoc]
  exact (tigerBlocks_append_rest S tigerIV M _).symm

theorem tigerFinalize_absorbed (S : Sbox) (e : Engine) (M : Bytes) :
    tigerFinalize S e (tigerAbsorbed S tigerInitCtx M) [] 24 = .ok (tigerInitCtx, tigerHash S e M) := by
  have hphase : (tigerAbsorbed S tigerInitCtx M).phase ≠ .uninit := by
    unfold tigerAbsorbed
    split_ifs <;> nofun
  exact tigerFinalize_eq_ok.mpr ⟨rfl, hphase, rfl, rfl, congrArg chainBytes (tigerFinalChain_absorbed S e M).symm⟩

/-- A message of fewer than 2^64 bytes fits an INIT context. -/
theorem tigerInitCtx_fits {n : Nat} (h : n < 2 ^ 64) : tigerInitCtx.totalLength.toNat + n ≤ Config.tigerLengthLimit :=
  (Nat.zero_add n).trans_le (Nat.le_pred_of_lt h)

/-- Settles O32: by `execAll_stream`, with the FINALIZE of the whole message. -/
theorem tigerStreamGivesTheWholeMessageHash : Obligations.TigerStreamGivesTheWholeMessageHash := by
  unfold Obligations.TigerStreamGivesTheWholeMessageHash
  rintro e parts s (rfl | rfl) hlen
  · exact execAll_stream s (tigerInitCtx_fits hlen) (tigerFinalize_absorbed tigerSbox .tiger parts.flatten)
  · exact execAll_stream s (tigerInitCtx_fits hlen) (tigerFinalize_absorbed tigerSbox .tiger2 parts.flatten)

/-! ## COMPRESS and ABSORB of one block (R105, R150) -/

/-- ABSORB of one block after INIT compresses it into the initial value and leaves no byte pending. -/
theorem tigerAbsorbed_block (S : Sbox) {B : Bytes} (hB : B.length = 64) :
    (tigerAbsorbed S tigerInitCtx B).pb = [] ∧ (tigerAbsorbed S tigerInitCtx B).phase = .accum
      ∧ (tigerAbsorbed S tigerInitCtx B).cv = tigerCompressWith S tigerIV (blockAt B 0) := by
  have hpb : (tigerAbsorbed S tigerInitCtx B).pb.length = 0 := by
    rw [tigerAbsorbed, tigerTakeBytes_length S _ _ tigerInitCtx_inv.1, hB]
    rfl
  refine ⟨List.eq_nil_of_length_eq_zero hpb, by simp [tigerAbsorbed, hB], ?_⟩
  rw [tigerAbsorbed_eq_byBlocks S tigerInitCtx_inv.1, ← tigerBlocks_of_length_eq S tigerIV hB]
  rfl

/-- COMPRESS of the initial value and a block. -/
theorem tigerCompressCmd_iv (S : Sbox) {B : Bytes} (hB : B.length = 64) :
    tigerCompressCmd S (chainBytes tigerIV ++ B) = .ok (chainBytes (tigerCompressWith S tigerIV (blockAt B 0))) := by
  have hchain : chainAt (chainBytes tigerIV ++ B) 0 = tigerIV := chainAt_chainBytes [] B tigerIV 0 rfl
  have hblock : blockAt (chainBytes tigerIV ++ B) 24 = blockAt B 0 := blockAt_append_right (chainBytes tigerIV) B 0
  exact tigerCompressCmd_eq_ok.mpr ⟨by simp [hB], by rw [hchain, hblock]⟩

/-- Settles O36: both sides are the compression of the initial value and the block. -/
theorem compressIsAbsorbOfOneBlock : Obligations.CompressIsAbsorbOfOneBlock := by
  unfold Obligations.CompressIsAbsorbOfOneBlock
  intro s B n hB
  have hfits : tigerInitCtx.totalLength.toNat + [B].flatten.length ≤ Config.tigerLengthLimit :=
    tigerInitCtx_fits (by simp [hB])
  obtain ⟨hpb, hphase, hcv⟩ := tigerAbsorbed_block tigerSbox hB
  have hflatten : [B].flatten = B := List.flatten_singleton
  constructor
  · obtain ⟨t, ht, hctx⟩ := execAll_init_absorb .tiger [B] s hfits
    replace hctx : t.tiger = tigerAbsorbed tigerSbox tigerInitCtx B := hflatten ▸ hctx
    refine ⟨t, ht, by rw [hctx, hpb], by rw [hctx, hphase], ?_⟩
    rw [hctx, hcv]
    exact congrArg s.answer (tigerCompressCmd_iv tigerSbox hB)
  · obtain ⟨t, ht, hctx⟩ := execAll_init_absorb .tiger2 [B] s hfits
    replace hctx : t.tiger2 = tigerAbsorbed tigerSbox tigerInitCtx B := hflatten ▸ hctx
    refine ⟨t, ht, by rw [hctx, hpb], by rw [hctx, hphase], ?_⟩
    rw [hctx, hcv]
    exact congrArg s.answer (tigerCompressCmd_iv tigerSbox hB)

/-! ## The two Tiger engines (R103, R105, R116) -/

/-- An operation whose body is the same on both Tiger engines, run on each in turn, keeps equal contexts equal. -/
theorem execAll_keeps_tiger_eq_tiger2 {op : Op} {arg : Bytes} {n m : Nat} {i j : Instr} {s t : State}
    (hi : instrOf op .tiger arg n = .ok i) (hj : instrOf op .tiger2 arg m = .ok j)
    (hbody : ∀ C, tigerBody .tiger op arg n C = tigerBody .tiger2 op arg m C) (hs : s.tiger = s.tiger2)
    (h : execAll [i, j] s = .next t) : t.tiger = t.tiger2 := by
  obtain ⟨u, hu, writesU, -⟩ := settle_writesOnly s .tiger (tigerBody .tiger op arg n s.tiger)
  obtain ⟨v, hv, writesV, -⟩ := settle_writesOnly u .tiger2 (tigerBody .tiger2 op arg m u.tiger2)
  have hrun : execAll [i, j] s = .next v :=
    (execAll_cons_of_next ((exec_of_instrOf hi s).trans hu)).trans
      (execAll_cons_of_next ((exec_of_instrOf hj u).trans hv))
  obtain rfl : v = t := Host.Outcome.next.inj (hrun.symm.trans h)
  have hu2 : u.tiger2 = s.tiger := (writesU.others .tiger2 nofun).trans hs.symm
  calc v.tiger = u.tiger := writesV.others .tiger nofun
    _ = bodyCtx s.tiger (tigerBody .tiger op arg n s.tiger) := writesU.own
    _ = bodyCtx u.tiger2 (tigerBody .tiger2 op arg m u.tiger2) := by rw [hu2, hbody]
    _ = v.tiger2 := writesV.own.symm

/-- Settles O39: INIT and ABSORB have one body on both engines; the tail after the marker is FINALIZE's zero bytes and
length field, which the common context fixes. -/
theorem tigerEnginesAgreeUntilFinalize : Obligations.TigerEnginesAgreeUntilFinalize := by
  unfold Obligations.TigerEnginesAgreeUntilFinalize
  intro s t arg n m hs
  refine ⟨execAll_keeps_tiger_eq_tiger2 (op := .init) rfl rfl (fun _ => rfl) hs,
    execAll_keeps_tiger_eq_tiger2 (op := .absorb) rfl rfl (fun _ => rfl) hs, fun hphase hfill => ?_⟩
  have htiger := tigerFinalize_eq_byBlocks tigerSbox .tiger hphase hfill
  have htiger2 := tigerFinalize_eq_byBlocks tigerSbox .tiger2 hphase hfill
  rw [List.append_assoc _ (zeros _)] at htiger htiger2
  refine ⟨_, _, _, exec_of_body_ok htiger, exec_of_body_ok (hs ▸ htiger2), rfl, rfl, ?_, rfl⟩
  rw [List.length_append, length_zeros, length_leStore]
  omega

end Sys2Proof.Machine
end

section
/-! The table of rounds (R142). A round with the roles moved on by one is a turn of the triple (p, q, r), which names no
variable; the rows of a pass and the pass form of R142 are both eight turns. Then the obligation O40. -/

namespace Sys2Proof.Machine

/-! ## Roles (R142) -/

/-- The roles of the round after one with the given roles. -/
def Roles.next : Roles → Roles
  | .abc => .bca
  | .bca => .cab
  | .cab => .abc

/-- The variables a, b, c when p, q, r stand in the given roles. -/
def Roles.chain : Roles → W64 × W64 × W64 → Chain
  | .abc, (a, b, c) => { a := a, b := b, c := c }
  | .bca, (b, c, a) => { a := a, b := b, c := c }
  | .cab, (c, a, b) => { a := a, b := b, c := c }

/-- A triple whose first entry goes last: p, q, r in the order of the next round's roles. -/
def moveOn : W64 × W64 × W64 → W64 × W64 × W64
  | (p, q, r) => (q, r, p)

theorem Roles.chain_next (ρ : Roles) (v : W64 × W64 × W64) : ρ.next.chain (moveOn v) = ρ.chain v := by
  cases ρ with
  | abc | bca | cab => rfl

theorem Roles.next_next_next (ρ : Roles) : ρ.next.next.next = ρ := by
  cases ρ with
  | abc | bca | cab => rfl

/-- Eight rounds leave the roles one short of three full periods. -/
theorem Roles.chain_next_eight (ρ : Roles) (v : W64 × W64 × W64) :
    (Roles.next^[8] ρ).chain v = ρ.chain (moveOn v) := by
  have period : (Roles.next^[8] ρ).next = ρ := by simp [next_next_next]
  rw [← chain_next, period]

/-! ## Turns (R141, R142) -/

/-- A round on (p, q, r), its result in the order of the next round's roles. -/
def tigerTurn (S : Sbox) (mul w : W64) (v : W64 × W64 × W64) : W64 × W64 × W64 :=
  moveOn (tigerRound S v.1 v.2.1 v.2.2 w mul)

/-- The first `k` rounds of a pass. -/
def tigerTurns (S : Sbox) (mul : W64) (x : Block) (v : W64 × W64 × W64) : Nat → W64 × W64 × W64
  | 0 => v
  | k + 1 => tigerTurn S mul (blockWord x k) (tigerTurns S mul x v k)

theorem tigerPass_eq_turns (S : Sbox) (mul : W64) (x : Block) (v : W64 × W64 × W64) :
    tigerPass S v.1 v.2.1 v.2.2 mul x = moveOn (tigerTurns S mul x v 8) := rfl

/-- A row of the table is a turn of the triple in the row's roles. -/
theorem tableRound_chain (S : Sbox) (x : Block) (row : RoundRow) (v : W64 × W64 × W64) :
    tableRound S x (row.roles.chain v) row
      = row.roles.next.chain (tigerTurn S row.mul (blockWord (keySchedule^[row.pass - 1] x) row.word) v) := by
  rw [tigerTurn, Roles.chain_next]
  obtain ⟨n, mul, ρ, i⟩ := row
  cases ρ with
  | abc | bca | cab => rfl

/-! ## Passes (R140, R142) -/

/-- The first `k` rows of pass `n`: one multiplier, the words in order, the roles moving on by one. -/
def passRows (n : Nat) (mul : W64) (ρ : Roles) (k : Nat) : List RoundRow :=
  (List.range k).map fun i => ⟨n, mul, Roles.next^[i] ρ, i⟩

theorem roundRows1_eq : roundRows1 = passRows 1 5 .abc 8 := rfl

theorem roundRows2_eq : roundRows2 = passRows 2 7 .cab 8 := rfl

theorem roundRows3_eq : roundRows3 = passRows 3 9 .bca 8 := rfl

theorem passRows_succ (n : Nat) (mul : W64) (ρ : Roles) (k : Nat) :
    passRows n mul ρ (k + 1) = passRows n mul ρ k ++ [⟨n, mul, Roles.next^[k] ρ, k⟩] := by
  simp [passRows, List.range_succ]

theorem foldl_passRows (S : Sbox) (x : Block) (n : Nat) (mul : W64) (ρ : Roles) (v : W64 × W64 × W64) (k : Nat) :
    (passRows n mul ρ k).foldl (tableRound S x) (ρ.chain v)
      = (Roles.next^[k] ρ).chain (tigerTurns S mul (keySchedule^[n - 1] x) v k) := by
  induction k with
  | zero => rfl
  | succ k ih =>
    rw [passRows_succ, List.foldl_concat, ih, Function.iterate_succ_apply', tigerTurns]
    exact tableRound_chain S x ⟨n, mul, Roles.next^[k] ρ, k⟩ _

/-- The eight rows of a pass are the pass form with the pass's roles for its a, b, c. -/
theorem foldl_passRows_eight (S : Sbox) (x : Block) (n : Nat) (mul : W64) (ρ : Roles) (v : W64 × W64 × W64) :
    (passRows n mul ρ 8).foldl (tableRound S x) (ρ.chain v)
      = ρ.chain (tigerPass S v.1 v.2.1 v.2.2 mul (keySchedule^[n - 1] x)) := by
  rw [foldl_passRows, Roles.chain_next_eight, tigerPass_eq_turns]

/-- Settles O40: pass by pass, each begun in its own roles: (a, b, c), then (c, a, b), then (b, c, a). -/
theorem roundTableComputesTigerCompress : Obligations.RoundTableComputesTigerCompress := by
  unfold Obligations.RoundTableComputesTigerCompress
  intro S h x
  rcases h1 : tigerPass S h.a h.b h.c 5 x with ⟨a1, b1, c1⟩
  rcases h2 : tigerPass S c1 a1 b1 7 (keySchedule x) with ⟨c2, a2, b2⟩
  rcases h3 : tigerPass S b2 c2 a2 9 (keySchedule (keySchedule x)) with ⟨b3, c3, a3⟩
  have pass1 : roundRows1.foldl (tableRound S x) h = ⟨a1, b1, c1⟩ :=
    (foldl_passRows_eight S x 1 5 .abc (h.a, h.b, h.c)).trans (congrArg (Roles.chain .abc) h1)
  have pass2 : roundRows2.foldl (tableRound S x) ⟨a1, b1, c1⟩ = ⟨a2, b2, c2⟩ :=
    (foldl_passRows_eight S x 2 7 .cab (c1, a1, b1)).trans (congrArg (Roles.chain .cab) h2)
  have pass3 : roundRows3.foldl (tableRound S x) ⟨a2, b2, c2⟩ = ⟨a3, b3, c3⟩ :=
    (foldl_passRows_eight S x 3 9 .bca (b2, c2, a2)).trans (congrArg (Roles.chain .bca) h3)
  simp only [tigerCompressTable, tigerCompressWith, List.foldl_append, pass1, pass2, pass3, h1, h2, h3]

end Sys2Proof.Machine
end

section
/-! The RadioGatun round word by word (45_radiogatun_round.md R180 to R185): each word of gamma, of pi and of the mill
function, where a round and an injection take each word of the mill and the belt, and the obligations O41, O42 and
O43. -/

namespace Sys2Proof.Machine

/-! ## Word arrays (R17) -/

section
variable {W n : Nat} (v : Vector (BitVec W) (n + 1))

theorem wordAt_mod (k : Nat) : wordAt v (k % (n + 1)) = wordAt v k := by
  simp only [wordAt, Nat.mod_mod]

theorem getElem!_eq_wordAt {k : Nat} (h : k < n + 1) : v[k]! = wordAt v k := by
  rw [wordAt_of_lt v k h, getElem!_pos v k h]

/-- A modular index written out. -/
theorem getElem!_mod_eq_wordAt (k : Nat) : v[k % (n + 1)]! = wordAt v k := by
  rw [getElem!_eq_wordAt v (Nat.mod_lt k (Nat.succ_pos n)), wordAt_mod]

end

/-! ## The mill function (R180 to R183) -/

/-- The rotation of R12 is the library's. -/
theorem rotr_eq_rotateRight {n : Nat} (x : BitVec n) {r : Nat} (h : r < n) : rotr x r = x.rotateRight r := by
  rcases Nat.eq_zero_or_pos r with rfl | hpos
  · simp [rotr, BitVec.rotateRight_def]
  · rw [rotr, BitVec.rotateRight_def, Nat.mod_eq_of_lt h, Nat.mod_eq_of_lt (by omega)]

section
variable {W : Nat} (a : Vector (BitVec W) 19)

/-- Word `k` of gamma, the index mod 19 (R181). -/
def gammaWord (k : Nat) : BitVec W := wordAt a k ^^^ (wordAt a (k + 1) ||| ~~~(wordAt a (k + 2)))

theorem gammaWord_mod (k : Nat) : gammaWord a (k % 19) = gammaWord a k := by
  simp only [gammaWord, wordAt, Nat.mod_mod, Nat.mod_add_mod]

theorem wordAt_gamma (k : Nat) : wordAt (gamma a) k = gammaWord a k :=
  (wordAt_ofFn _ k).trans (gammaWord_mod a k)

/-- The source column of the table of R182. -/
def piSources : List Nat := [0, 7, 14, 2, 9, 16, 4, 11, 18, 6, 13, 1, 8, 15, 3, 10, 17, 5, 12]

theorem piSources_getD {j : Nat} (h : j < 19) : piSources.getD j 0 = 7 * j % 19 := by
  revert j
  decide

/-- Word `j` after pi, read off the table of R182; `amount` is its rotation column for words of `W` bits. -/
theorem wordAt_piRotate_gamma (hW : 0 < W) {amount : List Nat}
    (hamount : ∀ j < 19, amount.getD j 0 = j * (j + 1) / 2 % W) (j : Nat) :
    wordAt (piRotate (gamma a)) j
      = (gammaWord a (piSources.getD (j % 19) 0)).rotateRight (amount.getD (j % 19) 0) := by
  have hj : j % 19 < 19 := Nat.mod_lt j (by norm_num)
  rw [piRotate, wordAt_ofFn, wordAt_gamma, piSources_getD hj, gammaWord_mod, hamount _ hj,
    rotr_eq_rotateRight _ (Nat.mod_lt _ hW)]

/-- Theta and iota, word by word (R183). -/
theorem getElem_iota_theta (r : Vector (BitVec W) 19) (i : Fin 19) :
    (iota (theta r))[i]
      = wordAt r i.val ^^^ wordAt r (i.val + 1) ^^^ wordAt r (i.val + 4) ^^^ (if i = 0 then 1 else 0) := by
  by_cases hi : i = 0
  · subst hi
    simp [iota, theta]
  · have hval : 0 ≠ i.val := fun h => hi (Fin.ext h.symm)
    simp [iota, theta, hi, hval]

/-- A word of the mill function, gamma and pi given as any two functions that agree with the table of R182. -/
theorem getElem_millFn (hW : 0 < W) {amount : List Nat} (hamount : ∀ j < 19, amount.getD j 0 = j * (j + 1) / 2 % W)
    {g r : Nat → BitVec W} (hg : ∀ k, g k = gammaWord a k)
    (hr : ∀ j, r j = (g (piSources.getD (j % 19) 0)).rotateRight (amount.getD (j % 19) 0)) (i : Fin 19) :
    (millFn a)[i] = r i.val ^^^ r (i.val + 1) ^^^ r (i.val + 4) ^^^ (if i = 0 then 1 else 0) := by
  have hpi (j : Nat) : r j = wordAt (piRotate (gamma a)) j := by
    rw [hr, hg, wordAt_piRotate_gamma a hW hamount]
  rw [millFn, getElem_iota_theta, hpi, hpi, hpi]

/-- Gamma with its modular indices written out (R181). -/
theorem gammaWord_eq_getElem! (k : Nat) :
    a[k % 19]! ^^^ (a[(k + 1) % 19]! ||| ~~~a[(k + 2) % 19]!) = gammaWord a k := by
  simp only [getElem!_mod_eq_wordAt, gammaWord]

end

/-- Settles O41: `getElem_millFn` with the rotation columns of the two word lengths. -/
theorem millWordsFollowGammaPiThetaIota : Obligations.MillWordsFollowGammaPiThetaIota := by
  unfold Obligations.MillWordsFollowGammaPiThetaIota
  constructor
  · intro a i src amount g r
    exact getElem_millFn a (by norm_num) (amount := amount) (by decide) (gammaWord_eq_getElem! a) (fun _ => rfl) i
  · intro a i src amount g r
    exact getElem_millFn a (by norm_num) (amount := amount) (by decide) (gammaWord_eq_getElem! a) (fun _ => rfl) i

/-! ## One round (R184) -/

section
variable {W : Nat} (m : MillBelt W)

/-- One stage on, the row kept, is 36 flat words on around the belt. -/
theorem beltWord_stage_before (b : Vector (BitVec W) 39) (k : Nat) :
    beltWord b (k / 3 + 12) (k % 3) = wordAt b (k + 36) := by
  have hflat : (3 * ((k / 3 + 12) % 13) + k % 3) % 39 = (k + 36) % 39 := by omega
  rw [beltWord, ← wordAt_mod b, hflat, wordAt_mod]

/-- The flat words that take a mill word: row `i mod 3` of stage `i + 1`, for `i` = 0 to 11. -/
theorem takesMillWord_iff {k : Nat} (h : k < 39) :
    (1 ≤ k / 3 ∧ k % 3 = (k / 3 - 1) % 3) ↔ k ∈ [3, 7, 11, 12, 16, 20, 21, 25, 29, 30, 34, 38] := by
  revert k
  decide

theorem getElem_beltNext (k : Fin 39) :
    (beltNext m)[k] = m.belt[(k.val + 36) % 39]!
      ^^^ (if k.val ∈ [3, 7, 11, 12, 16, 20, 21, 25, 29, 30, 34, 38] then m.mill[k.val / 3]! else 0) := by
  have hmill : k.val / 3 < 19 := by omega
  rw [Fin.getElem_fin, beltNext, Vector.getElem_ofFn, getElem!_mod_eq_wordAt, getElem!_eq_wordAt m.mill hmill]
  simp only [beltWord_stage_before, takesMillWord_iff k.isLt]
  split
  · rfl
  · exact BitVec.xor_zero.symm

theorem getElem_millNext (i : Fin 19) :
    (millNext m)[i] = (millFn m.mill)[i]
      ^^^ (if i.val ∈ [13, 14, 15] then m.belt[36 + (i.val - 13)]! else 0) := by
  have hfed : (13 ≤ i.val ∧ i.val ≤ 15) ↔ i.val ∈ [13, 14, 15] := by
    simp only [List.mem_cons, List.not_mem_nil, or_false]
    omega
  rw [Fin.getElem_fin, millNext, Vector.getElem_ofFn]
  simp only [wordAt_of_lt _ _ i.isLt, hfed]
  split
  next hi =>
    have hrow : i.val ≤ 15 := (hfed.mpr hi).2
    have hbelt : 36 + (i.val - 13) < 39 := by omega
    rw [getElem!_eq_wordAt m.belt hbelt]
    rfl
  next => exact BitVec.xor_zero.symm

end

/-- Settles O42: word by word, for every word length. -/
theorem roundMovesTheBeltAndFeedsForward : Obligations.RoundMovesTheBeltAndFeedsForward := by
  unfold Obligations.RoundMovesTheBeltAndFeedsForward
  intro W _ m
  exact ⟨getElem_beltNext m, getElem_millNext m⟩

/-! ## Injection (R185) -/

section
variable {W : Nat} (m : MillBelt W) (p : Vector (BitVec W) 3)

theorem getElem_inject_belt (k : Fin 39) :
    (inject m p).belt[k] = if k.val < 3 then m.belt[k] ^^^ p[k.val]! else m.belt[k] := by
  rw [Fin.getElem_fin, inject, Vector.getElem_ofFn]
  simp only [wordAt_of_lt _ _ k.isLt]
  split
  next hk =>
    rw [getElem!_eq_wordAt p hk]
    rfl
  next => rfl

theorem getElem_inject_mill (i : Fin 19) :
    (inject m p).mill[i] = if 16 ≤ i.val then m.mill[i] ^^^ p[i.val - 16]! else m.mill[i] := by
  have hinput : i.val - 16 < 3 := by omega
  rw [Fin.getElem_fin, inject, Vector.getElem_ofFn, getElem!_eq_wordAt p hinput]
  simp only [wordAt_of_lt _ _ i.isLt]
  rfl

/-- Input words that are zero change nothing. -/
theorem inject_zero : inject m (Vector.replicate 3 0) = m := by
  have hzero (k : Nat) : wordAt (Vector.replicate 3 (0 : BitVec W)) k = 0#W := by simp [wordAt]
  have hmill : (inject m (Vector.replicate 3 0)).mill = m.mill := by
    ext1 i hi
    simp only [inject, Vector.getElem_ofFn, wordAt_of_lt _ i hi, hzero, BitVec.xor_zero, ite_self]
  have hbelt : (inject m (Vector.replicate 3 0)).belt = m.belt := by
    ext1 k hk
    simp only [inject, Vector.getElem_ofFn, wordAt_of_lt _ k hk, hzero, BitVec.xor_zero, ite_self]
  exact congrArg₂ MillBelt.mk hmill hbelt

end

/-- Settles O43: word by word, for every word length. -/
theorem injectionTouchesSixWords : Obligations.InjectionTouchesSixWords := by
  unfold Obligations.InjectionTouchesSixWords
  intro W _ m p
  exact ⟨getElem_inject_belt m p, getElem_inject_mill m p, rfl⟩

end Sys2Proof.Machine
end

section
/-! ROUND and BLANK beside the engine that uses the round (45_radiogatun_round.md R190 to R194): ABSORB's loop block by
block, and the obligations O37 and O38. -/

namespace Sys2Proof.Machine

/-! ## Words in a longer sequence -/

theorem take_length_append (s t : Bytes) : (s ++ t).take s.length = s.take s.length := by
  rw [List.take_left, List.take_length]

section
variable (W n : Nat)

theorem wordsAt_append_left {s : Bytes} (t : Bytes) {o : Nat} (h : o + rgWordBytes W * n ≤ s.length) :
    wordsAt W n (s ++ t) o = wordsAt W n s o :=
  wordsAt_eq_of_take_eq (take_length_append s t) h

theorem millBeltAt_append_left {s : Bytes} (t : Bytes) {o : Nat} (h : o + 58 * rgWordBytes W ≤ s.length) :
    millBeltAt W (s ++ t) o = millBeltAt W s o :=
  millBeltAt_eq_of_take_eq (take_length_append s t) h

theorem wordsAt_append_right (s t : Bytes) (o : Nat) : wordsAt W n (s ++ t) (s.length + o) = wordsAt W n t o := by
  simp only [wordsAt, Nat.add_assoc, leLoad_append_right]

theorem leNat_zeros (k : Nat) : leNat (zeros k) = 0 := by
  induction k with
  | zero => rfl
  | succ k ih =>
    have hcons : zeros (k + 1) = 0 :: zeros k := rfl
    simp [hcons, leNat, ih]

theorem wordsAt_zeros (k o : Nat) : wordsAt W n (zeros k) o = Vector.replicate n 0 := by
  ext1 i hi
  have hslice (i j : Nat) : slice (zeros k) i j = zeros (min (j - i) (k - i)) := by
    simp only [slice, zeros, List.drop_replicate, List.take_replicate]
  rw [wordsAt, Vector.getElem_ofFn, leLoad, hslice, leNat_zeros, Vector.getElem_replicate]
  rfl

end

/-! ## ABSORB, block by block (R222) -/

section
variable {W : Nat}

/-- The absorption round of the block at an offset. -/
def roundInAt (m : MillBelt W) (s : Bytes) (o : Nat) : MillBelt W := roundIn m (wordsAt W 3 s o)

theorem roundInAt_readsBlock : ReadsBlock (rgCap W) (roundInAt (W := W)) where
  left m _ t _ ho := congrArg (roundIn m) (wordsAt_append_left W 3 t (by rwa [Nat.mul_comm]))
  right m s t o := congrArg (roundIn m) (wordsAt_append_right W 3 s t o)

theorem rgTakeBytes_eq_blocks (m : MillBelt W) {pb : Bytes} (hfill : pb.length < rgCap W) (arg : Bytes) :
    rgTakeBytes (m, pb) arg = (rgBlocks m (pb ++ arg), blocksRest (rgCap W) (pb ++ arg)) :=
  foldl_takeByteInto roundInAt_readsBlock m hfill arg

/-- One block is one absorption round. -/
theorem rgBlocks_of_length_eq (hcap : 0 < rgCap W) (m : MillBelt W) {s : Bytes} (hs : s.length = rgCap W) :
    rgBlocks m s = roundIn m (wordsAt W 3 s 0) :=
  foldBlocks_of_length_eq (f := roundInAt) hcap hs m

/-- ABSORB's mill and belt are those of its loop. -/
theorem rgAbsorbed_millBelt (C : RGCtx W) (arg : Bytes) :
    (rgAbsorbed C arg).millBelt = (rgTakeBytes (C.millBelt, C.pb) arg).1 := rfl

/-- ABSORB of one block into an empty buffer is one absorption round and leaves no byte pending. -/
theorem rgAbsorbed_block (hcap : 0 < rgCap W) {C : RGCtx W} {B : Bytes} (hpb : C.pb = []) (hB : B.length = rgCap W) :
    (rgAbsorbed C B).pb = [] ∧ (rgAbsorbed C B).millBelt = roundIn C.millBelt (wordsAt W 3 B 0) := by
  have hloop : rgTakeBytes (C.millBelt, C.pb) B = (roundIn C.millBelt (wordsAt W 3 B 0), []) := by
    have hrest : blocksRest (rgCap W) B = [] :=
      List.eq_nil_of_length_eq_zero (by rw [length_blocksRest, hB, Nat.mod_self])
    rw [hpb, rgTakeBytes_eq_blocks C.millBelt (pb := []) hcap, List.nil_append,
      rgBlocks_of_length_eq hcap C.millBelt hB, hrest]
  exact ⟨congrArg Prod.snd hloop, by rw [rgAbsorbed_millBelt, hloop]⟩

/-! ## ROUND (R190, R191, R194) -/

/-- ROUND of a mill and belt followed by a block. -/
theorem rgRoundCmd_block (hW : 8 ∣ W) (m : MillBelt W) {B : Bytes} (hB : B.length = rgCap W) :
    rgRoundCmd W (millBeltBytes m ++ B) = .ok (millBeltBytes (roundIn m (wordsAt W 3 B 0))) := by
  have hlen : (millBeltBytes m ++ B).length = 61 * rgWordBytes W := by
    rw [List.length_append, length_millBeltBytes, hB, rgCap]
    omega
  have hread : millBeltAt W (millBeltBytes m ++ B) 0 = m := millBeltAt_millBeltBytes hW [] B m 0 rfl
  have hinput : wordsAt W 3 (millBeltBytes m ++ B) (rgWordBytes W * 58) = wordsAt W 3 B 0 := by
    rw [← wordsAt_append_right W 3 (millBeltBytes m) B 0, length_millBeltBytes, Nat.mul_comm, Nat.add_zero]
  rw [rgRoundCmd, requireLength_of_eq hlen, hread, hinput]

/-- ROUND on a context's mill and belt and a block gives the mill and belt that ABSORB of the block leaves. -/
theorem rgRoundCmd_eq_absorbed (hW : 8 ∣ W) (hcap : 0 < rgCap W) {C : RGCtx W} {B : Bytes} (hpb : C.pb = [])
    (hB : B.length = rgCap W) :
    rgRoundCmd W (millBeltBytes C.millBelt ++ B) = .ok (millBeltBytes (rgAbsorbed C B).millBelt) := by
  rw [rgRoundCmd_block hW C.millBelt hB, (rgAbsorbed_block hcap hpb hB).2]

/-- ROUND with zero input words is BLANK: the injection changes nothing. -/
theorem rgRoundCmd_zeros {arg : Bytes} (hlen : arg.length = 58 * rgWordBytes W) :
    rgRoundCmd W (arg ++ zeros (rgCap W)) = rgBlankCmd W arg := by
  have hround : (arg ++ zeros (rgCap W)).length = 61 * rgWordBytes W := by
    rw [List.length_append, length_zeros, hlen, rgCap]
    omega
  have hmillBelt : millBeltAt W (arg ++ zeros (rgCap W)) 0 = millBeltAt W arg 0 :=
    millBeltAt_append_left W _ (by omega)
  have hinput : wordsAt W 3 (arg ++ zeros (rgCap W)) (rgWordBytes W * 58) = Vector.replicate 3 0 := by
    rw [Nat.mul_comm, ← hlen, ← Nat.add_zero arg.length, wordsAt_append_right, wordsAt_zeros]
  rw [rgRoundCmd, rgBlankCmd, requireLength_of_eq hround, requireLength_of_eq hlen, hmillBelt, hinput, roundIn,
    inject_zero]

end

/-- Settles O37: both commands are the absorption round of the block. -/
theorem roundIsAbsorbOfOneBlock : Obligations.RoundIsAbsorbOfOneBlock := by
  unfold Obligations.RoundIsAbsorbOfOneBlock
  constructor
  · intro s B n hphase hpb hB
    exact ⟨(s.setRg32 (rgAbsorbed s.rg32 B)).complete [], exec_of_body_ok (rgAbsorb_eq_ok.mpr ⟨hphase, rfl, rfl⟩),
      (rgAbsorbed_block (by decide) hpb hB).1,
      congrArg s.answer (rgRoundCmd_eq_absorbed (by norm_num) (by decide) hpb hB)⟩
  · intro s B n hphase hpb hB
    exact ⟨(s.setRg64 (rgAbsorbed s.rg64 B)).complete [], exec_of_body_ok (rgAbsorb_eq_ok.mpr ⟨hphase, rfl, rfl⟩),
      (rgAbsorbed_block (by decide) hpb hB).1,
      congrArg s.answer (rgRoundCmd_eq_absorbed (by norm_num) (by decide) hpb hB)⟩

/-- Settles O38: `rgRoundCmd_zeros` at the two word lengths. -/
theorem roundOfZeroInputIsBlank : Obligations.RoundOfZeroInputIsBlank := by
  unfold Obligations.RoundOfZeroInputIsBlank
  intro s arg n m
  exact ⟨fun hlen => congrArg s.answer (rgRoundCmd_zeros (W := 32) hlen),
    fun hlen => congrArg s.answer (rgRoundCmd_zeros (W := 64) hlen)⟩

end Sys2Proof.Machine
end

section
/-! The commands of the RadioGatun engines (46_radiogatun_engine.md): each body's faults and its result in the form the
statements give them, for any word length; then the statements at both engines. -/

namespace Sys2Proof.Machine

/-! ## INIT (R220, R221) -/

/-- Settles O16: INIT looks at its operand's length alone. -/
theorem radioGatunInitWritesTheInitContext : Obligations.RadioGatunInitWritesTheInitContext := by
  unfold Obligations.RadioGatunInitWritesTheInitContext
  intro s arg n
  exact ⟨rfl, rfl, fun harg => ⟨exec_of_body_error (st := .operandLength) (requireLength_zero_error harg),
    exec_of_body_error (st := .operandLength) (requireLength_zero_error harg)⟩⟩

/-! ## ABSORB (R222, R223) -/

section
variable {W : Nat}

/-- ABSORB, byte by byte, is ABSORB block by block (R222). -/
theorem rgAbsorbed_eq_byBlocks {C : RGCtx W} (hfill : C.pb.length < rgCap W) (arg : Bytes) :
    rgAbsorbed C arg = rgAbsorbedByBlocks C arg := by
  have hphase : (if 0 < arg.length then Phase.accum else C.phase) = if arg = [] then C.phase else .accum := by
    simpa only [List.length_eq_zero_iff] using absorbedPhase_eq arg C.phase
  rw [rgAbsorbed, rgTakeBytes_eq_blocks C.millBelt hfill, hphase]
  rfl

theorem rgAbsorb_eq_byBlocks {C : RGCtx W} (hphase : C.phase ≠ .uninit) (hfill : C.pb.length < rgCap W) (arg : Bytes) :
    rgAbsorb C arg = .ok (rgAbsorbedByBlocks C arg, []) :=
  rgAbsorb_eq_ok.mpr ⟨hphase, (rgAbsorbed_eq_byBlocks hfill arg).symm, rfl⟩

end

/-- Settles O18: the fault and the block form of the one ABSORB body, at both engines. -/
theorem radioGatunAbsorbTakesWholeBlocks : Obligations.RadioGatunAbsorbTakesWholeBlocks := by
  unfold Obligations.RadioGatunAbsorbTakesWholeBlocks
  intro s arg n
  refine ⟨⟨fun hphase => ?_, fun hphase hfill => ?_⟩, fun hphase => ?_, fun hphase hfill => ?_⟩
  · exact exec_of_body_error (st := .notInitialized) (engineBody_uninit .rg32 hphase (.inl rfl))
  · exact exec_of_body_ok (rgAbsorb_eq_byBlocks hphase hfill arg)
  · exact exec_of_body_error (st := .notInitialized) (engineBody_uninit .rg64 hphase (.inl rfl))
  · exact exec_of_body_ok (rgAbsorb_eq_byBlocks hphase hfill arg)

/-! ## FINALIZE (R224, R226, R227) -/

section
variable {W : Nat}

/-- Output round `k` gives the words that stand in the mill after `k + 1` rounds (R224, R225). -/
theorem rgSqueeze_eq_flatMap (n : Nat) (m : MillBelt W) :
    rgSqueeze n m = (List.range n).flatMap fun k =>
      leStore (wordAt (rgRound^[k + 1] m).mill 1) ++ leStore (wordAt (rgRound^[k + 1] m).mill 2) := by
  induction n generalizing m with
  | zero => rfl
  | succ n ih =>
    rw [rgSqueeze, ih, List.range_succ_eq_map, List.flatMap_cons, List.flatMap_map]
    rfl

/-- The output rounds follow the 16 blank rounds (R224). -/
theorem rgOutput_eq_digestOf (m : MillBelt W) : rgOutput m = rgDigestOf m := by
  rw [rgOutput, rgSqueeze_eq_flatMap, rgDigestOf]
  simp only [← Function.iterate_add_apply, rgBlankRounds, Nat.add_comm 16]

/-- The block FINALIZE absorbs is full, so its one absorption round is the block form of it. -/
theorem rgBlocks_rgLastBlock (e : Engine) {C : RGCtx W} (hfill : C.pb.length < rgCap W) (m : MillBelt W) :
    rgBlocks m (rgLastBlock e C) = roundIn m (wordsAt W 3 (rgLastBlock e C) 0) := by
  have hlen : (rgLastBlock e C).length = rgCap W := by
    simp only [rgLastBlock, List.length_append, List.length_singleton, length_zeros]
    omega
  exact rgBlocks_of_length_eq (Nat.zero_lt_of_lt hfill) m hlen

/-- FINALIZE with a buffer of the digest's size, block by block. -/
theorem rgFinalize_eq_byBlocks (e : Engine) {C : RGCtx W} (hphase : C.phase ≠ .uninit)
    (hfill : C.pb.length < rgCap W) :
    rgFinalize e C [] 32 = .ok (rgInitCtx W,
      rgDigestOf (rgBlocks C.millBelt (C.pb ++ [padByte e] ++ zeros (rgCap W - 1 - C.pb.length)))) := by
  have hblock : rgLastBlock e C = C.pb ++ [padByte e] ++ zeros (rgCap W - 1 - C.pb.length) := by
    rw [rgLastBlock, Nat.sub_right_comm]
  refine rgFinalize_eq_ok.mpr ⟨rfl, hphase, rfl, rfl, ?_⟩
  rw [rgOutput_eq_digestOf, ← rgBlocks_rgLastBlock e hfill, hblock]

end

/-- Settles O20: the faults and the block form of the one FINALIZE body, at both engines. -/
theorem radioGatunFinalizePadsAndReturnsTheDigest : Obligations.RadioGatunFinalizePadsAndReturnsTheDigest := by
  unfold Obligations.RadioGatunFinalizePadsAndReturnsTheDigest
  constructor
  · intro s arg n
    exact ⟨fun harg => exec_of_body_error (st := .operandLength) (requireLength_zero_error harg),
      fun hphase => exec_of_body_error (st := .notInitialized) (requireLength_requireInit_error hphase),
      fun hphase hlen => exec_of_body_error (st := .sizeMismatch) (requireOutlen_error hphase hlen),
      fun hphase hfill => exec_of_body_ok (rgFinalize_eq_byBlocks .rg32 hphase hfill)⟩
  · intro s arg n
    exact ⟨fun harg => exec_of_body_error (st := .operandLength) (requireLength_zero_error harg),
      fun hphase => exec_of_body_error (st := .notInitialized) (requireLength_requireInit_error hphase),
      fun hphase hlen => exec_of_body_error (st := .sizeMismatch) (requireOutlen_error hphase hlen),
      fun hphase hfill => exec_of_body_ok (rgFinalize_eq_byBlocks .rg64 hphase hfill)⟩

/-! ## SAVE (R236, R237) -/

/-- SAVE of an initialised context answers its image, whose first byte is 1 or 2. -/
theorem rgSave_eq_image {W : Nat} (e : Engine) {C : RGCtx W} (hphase : C.phase ≠ .uninit) :
    rgSave e C [] = .ok (C, [if C.phase = .ready then 1 else 2, BitVec.ofNat 8 C.pb.length, engineByte e] ++ zeros 5
      ++ bytesOf C.mill.toList ++ bytesOf C.belt.toList ++ C.pb ++ zeros (rgCap W - C.pb.length)) := by
  refine rgSave_eq_ok.mpr ⟨rfl, hphase, rfl, ?_⟩
  rw [rgImage, phaseCode_of_ne_uninit hphase, millBeltBytes, ← List.append_assoc _ (bytesOf _)]
  rfl

/-- Settles O25: the faults and the image of the one SAVE body, with each engine's number. -/
theorem radioGatunSaveReturnsTheImage : Obligations.RadioGatunSaveReturnsTheImage := by
  unfold Obligations.RadioGatunSaveReturnsTheImage
  constructor
  · intro s arg n
    exact ⟨fun harg => exec_of_body_error (st := .operandLength) (requireLength_zero_error harg),
      fun hphase => exec_of_body_error (st := .notInitialized) (requireLength_requireInit_error hphase),
      fun hphase => exec_of_body_ok (rgSave_eq_image .rg32 hphase)⟩
  · intro s arg n
    exact ⟨fun harg => exec_of_body_error (st := .operandLength) (requireLength_zero_error harg),
      fun hphase => exec_of_body_error (st := .notInitialized) (requireLength_requireInit_error hphase),
      fun hphase => exec_of_body_ok (rgSave_eq_image .rg64 hphase)⟩

/-! ## LOAD (R238, R239) -/

section
variable {W : Nat}

theorem wordsAt_eq_zero_iff {n : Nat} {s : Bytes} {o : Nat} :
    wordsAt W n s o = Vector.replicate n 0 ↔ ∀ k < n, leLoad W s (o + rgWordBytes W * k) = 0 := by
  simp only [Vector.ext_iff, wordsAt, Vector.getElem_ofFn, Vector.getElem_replicate]

/-- Mill and belt are 58 consecutive words (R77). -/
theorem millBeltAt_eq_zero_iff {s : Bytes} {o : Nat} :
    millBeltAt W s o = millBeltZero W ↔ ∀ k < 58, leLoad W s (o + rgWordBytes W * k) = 0 := by
  rw [millBeltAt, millBeltZero, MillBelt.mk.injEq, wordsAt_eq_zero_iff, wordsAt_eq_zero_iff]
  simp only [Nat.add_assoc, ← Nat.mul_add]
  constructor
  · rintro ⟨hmill, hbelt⟩ k hk
    by_cases hk19 : k < 19
    · exact hmill k hk19
    · have hword := hbelt (k - 19) (by omega)
      rwa [Nat.add_sub_cancel' (by omega)] at hword
  · intro h
    exact ⟨fun k hk => h k (by omega), fun k hk => h (19 + k) (by omega)⟩

/-- LOAD's checks are those of R238. -/
theorem rgImageValid_iff_accepted (e : Engine) {img : Bytes} (hlen : img.length = rgImageBytes W) :
    rgImageValid W e img = true ↔ rgImageAccepted W (engineByte e) img := by
  have hheader : 8 ≤ img.length := by rw [hlen, rgImageBytes]; omega
  have hfill : imageFill img = 0 ↔ img.getD 1 0 = 0 := BitVec.toNat_inj (y := 0)
  rw [rgImageValid_iff, slice_eq_zeros_iff hheader, hfill, millBeltAt_eq_zero_iff]
  rfl

/-- LOAD of an operand of the right length is decided by the checks of R238. -/
theorem rgLoad_accepted (e : Engine) {arg : Bytes} (hlen : arg.length = rgImageBytes W)
    (h : rgImageAccepted W (engineByte e) arg) :
    rgLoad W e arg = .ok
      ({ phase := if arg.getD 0 0 = 1 then .ready else .accum
         pb := (arg.drop (8 + 58 * rgWordBytes W)).take (arg.getD 1 0).toNat
         mill := wordsAt W 19 arg 8
         belt := wordsAt W 39 arg (8 + rgWordBytes W * 19) }, []) := by
  have hpb : (arg.drop (8 + 58 * rgWordBytes W)).take (arg.getD 1 0).toNat
      = slice arg (8 + 58 * rgWordBytes W) (8 + 58 * rgWordBytes W + imageFill arg) := by
    rw [slice, Nat.add_sub_cancel_left, imageFill]
  rw [hpb]
  exact rgLoad_eq_ok.mpr ⟨hlen, (rgImageValid_iff_accepted e hlen).mpr h, rfl, rfl⟩

theorem rgLoad_rejected (e : Engine) {arg : Bytes} (hlen : arg.length = rgImageBytes W)
    (h : ¬ rgImageAccepted W (engineByte e) arg) : rgLoad W e arg = .error .badContext := by
  have hinvalid : rgImageValid W e arg = false :=
    Bool.eq_false_of_not_eq_true (mt (rgImageValid_iff_accepted e hlen).mp h)
  exact requireLength_eq_error.mpr (.inr ⟨hlen, requireImage_eq_error.mpr (.inl ⟨hinvalid, rfl⟩)⟩)

end

/-- Settles O27: the one LOAD body, with each engine's number and word length. -/
theorem radioGatunLoadAcceptsExactlyTheValidImages : Obligations.RadioGatunLoadAcceptsExactlyTheValidImages := by
  unfold Obligations.RadioGatunLoadAcceptsExactlyTheValidImages
  constructor
  · intro s arg n
    exact ⟨fun hlen => exec_of_body_error (st := .operandLength) (requireLength_of_ne hlen),
      fun hlen h => exec_of_body_error (st := .badContext) (rgLoad_rejected .rg32 hlen h),
      fun hlen h => exec_of_body_ok (rgLoad_accepted .rg32 hlen h)⟩
  · intro s arg n
    exact ⟨fun hlen => exec_of_body_error (st := .operandLength) (requireLength_of_ne hlen),
      fun hlen h => exec_of_body_error (st := .badContext) (rgLoad_rejected .rg64 hlen h),
      fun hlen h => exec_of_body_ok (rgLoad_accepted .rg64 hlen h)⟩

/-! ## The hash of a whole message (R228) -/

section
variable {W : Nat}

theorem rgBlocks_append_rest (hcap : 0 < rgCap W) (m : MillBelt W) (s t : Bytes) :
    rgBlocks m (s ++ t) = rgBlocks (rgBlocks m s) (blocksRest (rgCap W) s ++ t) :=
  foldBlocks_append_rest roundInAt_readsBlock hcap m s t

/-- The zeros that complete a block depend on a length as on what it leaves over whole blocks. -/
theorem toNat_sub_emod_eq {c : Nat} (hc : 0 < c) (n : Nat) :
    (((c : Int) - 1 - (n : Int)) % (c : Int)).toNat = c - 1 - n % c := by
  have hlt : n % c < c := Nat.mod_lt n hc
  have hsplit : (c : Int) - 1 - (n : Int) = ((c - 1 - n % c : Nat) : Int) + c * -((n / c : Nat) : Int) := by
    have hdiv : (c : Int) * ((n / c : Nat) : Int) + ((n % c : Nat) : Int) = n := by exact_mod_cast Nat.div_add_mod n c
    rw [mul_neg]
    omega
  rw [hsplit, Int.add_mul_emod_self_left, ← Int.natCast_emod, Int.toNat_natCast, Nat.mod_eq_of_lt (by omega)]

/-- FINALIZE after a message answers the hash of the message: the pending bytes and their pad are the end of the padded
message, because they have the message's length mod the block. -/
theorem rgFinalize_absorbed {e : Engine} (hpad : padByte e = 0x01) (hcap : 0 < rgCap W) (M : Bytes) :
    rgFinalize e (rgAbsorbed (rgInitCtx W) M) [] 32 = .ok (rgInitCtx W, rgHash W M) := by
  have hphase : (rgAbsorbed (rgInitCtx W) M).phase ≠ .uninit := by
    unfold rgAbsorbed
    split_ifs <;> nofun
  have habsorbed := rgAbsorbed_eq_byBlocks (C := rgInitCtx W) hcap M
  have hpb : (rgAbsorbed (rgInitCtx W) M).pb = blocksRest (rgCap W) M := by rw [habsorbed]; rfl
  have hmb : (rgAbsorbed (rgInitCtx W) M).millBelt = rgBlocks (millBeltZero W) M := by rw [habsorbed]; rfl
  have hrest : (blocksRest (rgCap W) M).length = M.length % rgCap W := length_blocksRest _ M
  rw [rgFinalize_eq_byBlocks e hphase (by rw [hpb, hrest]; exact Nat.mod_lt _ hcap), hpb, hmb, hrest, hpad, rgHash,
    rgBlocks_append_rest hcap _ M, rgPad, toNat_sub_emod_eq hcap, List.append_assoc]

end

/-- Settles O33: by `execAll_stream`, with the FINALIZE of the whole message; no length limit applies. -/
theorem radioGatunStreamGivesTheWholeMessageHash : Obligations.RadioGatunStreamGivesTheWholeMessageHash := by
  unfold Obligations.RadioGatunStreamGivesTheWholeMessageHash
  intro parts s
  exact ⟨execAll_stream (e := .rg32) s trivial (rgFinalize_absorbed rfl (by decide) parts.flatten),
    execAll_stream (e := .rg64) s trivial (rgFinalize_absorbed rfl (by decide) parts.flatten)⟩

end Sys2Proof.Machine
end

section
/-! The statements about faults (60_exceptions.md): the codes that are illegal (R264), what a fault leaves (R263), the
order of the causes (R270), and that no command stops the block (R269). -/

namespace Sys2Proof.Machine

/-! ## Illegal codes (R71, R264) -/

/-- `cmd = RSV * 32 + OP * 4 + ENG` with `RSV` = 0, as a number (R71). -/
theorem encodeCode_toNat (op : Op) (e : Engine) :
    (encodeCode op e).toNat = 4 * (opCode op).toNat + (engCode e).toNat := by
  have heng : (engCode e).toNat < 2 ^ 2 := (engCode e).isLt
  rw [encodeCode, BitVec.toNat_append, BitVec.toNat_append, BitVec.toNat_zero, Nat.zero_shiftLeft, Nat.zero_or,
    ← Nat.shiftLeft_add_eq_or_of_lt heng, Nat.shiftLeft_eq, Nat.mul_comm]

/-- `OP` = 7 is the code of no operation (R73). -/
theorem opCode_toNat_le (op : Op) : (opCode op).toNat ≤ 6 := by
  cases op with
  | init | absorb | finalize | transform | blank | save | load => decide

/-- `OP` = 4 is BLANK (R73). -/
theorem eq_blank_of_opCode_toNat {op : Op} (h : (opCode op).toNat = 4) : op = .blank := by
  cases op with
  | blank => rfl
  | init | absorb | finalize | transform | save | load => nomatch h

/-- ENG 0 and 1 are the Tiger engines (R72). -/
theorem eq_tiger_or_tiger2_of_engCode_toNat {e : Engine} (h : (engCode e).toNat ≤ 1) :
    e = .tiger ∨ e = .tiger2 := by
  cases e with
  | tiger => exact .inl rfl
  | tiger2 => exact .inr rfl
  | rg32 | rg64 => exact absurd h (by decide)

/-- The code of a pair of the map is below `OP` = 7 and is not BLANK on a Tiger engine (R74). -/
theorem encodeCode_toNat_legal {op : Op} {e : Engine} (h : NamesCommand op e) :
    ¬ ((encodeCode op e).toNat = 0x10 ∨ (encodeCode op e).toNat = 0x11 ∨ 0x1C ≤ (encodeCode op e).toNat) := by
  rw [encodeCode_toNat]
  have hop : (opCode op).toNat ≤ 6 := opCode_toNat_le op
  have heng : (engCode e).toNat < 4 := (engCode e).isLt
  intro hillegal
  have hblank : op = .blank := eq_blank_of_opCode_toNat (by omega)
  have htiger : e = .tiger ∨ e = .tiger2 := eq_tiger_or_tiger2_of_engCode_toNat (by omega)
  exact not_or.mpr (h hblank) htiger

/-- A transaction with an illegal code is refused, since what decodes carries the code of a pair of the map. -/
theorem exists_decode_error {c : Command} (h : c.cmd.toNat = 0x10 ∨ c.cmd.toNat = 0x11 ∨ 0x1C ≤ c.cmd.toNat) :
    ∃ r, decode c = .error r := by
  cases hdecode : decode c with
  | error r => exact ⟨r, rfl⟩
  | ok i =>
    obtain rfl := eq_encode_of_decode hdecode
    exact absurd h (encodeCode_toNat_legal (namesCommand_opEngine i))

/-- Settles O4: the condition of R264 is arithmetic on a byte, and a refused code is answered by `State.raise`. -/
theorem illegalCodesRaiseIllegalCommand : Obligations.IllegalCodesRaiseIllegalCommand := by
  unfold Obligations.IllegalCodesRaiseIllegalCommand
  intro s c rest hpending
  have hbyte : c.cmd.toNat < 256 := c.cmd.isLt
  refine ⟨by omega, fun hillegal => ?_⟩
  obtain ⟨r, hdecode⟩ := exists_decode_error hillegal
  exact step_of_decode_error hpending hdecode

/-! ## How a command ends (R260, R263, R269) -/

/-- Every command ends in a response, OK or not. -/
theorem exec_eq_respond (i : Instr) (s : State) :
    ∃ (u : State) (st : Status) (res : Bytes), exec i s = .next (u.respond st res) := by
  cases hbody : commandBody i (s.ctxOf (opEngine i).2) with
  | ok r => exact ⟨_, .ok, _, exec_of_body_ok hbody⟩
  | error st => exact ⟨_, st, [], exec_of_body_error hbody⟩

/-- Every step answers a next state: waiting, refusing a code and running a command all do. -/
theorem step_completes (s : State) : ∃ t, step s = .next t := by
  cases hpending : s.pending with
  | nil => exact ⟨s, by simp only [step, hpending]⟩
  | cons c rest =>
    obtain ⟨t, ht, -⟩ := everyCommandAdvancesTheIndex s c rest hpending
    exact ⟨t, ht⟩

/-- The seven status codes are 0 to 6 (R260). -/
theorem statusCode_toNat_le (st : Status) : (statusCode st).toNat ≤ 6 := by
  cases st with
  | ok | illegalCommand | notInitialized | sizeMismatch | inputTooLarge | badContext | operandLength => decide

/-- Settles O8: a command ends in a response, which writes one code to STATUS and to the host. -/
theorem everyCommandCompletes : Obligations.EveryCommandCompletes := by
  unfold Obligations.EveryCommandCompletes
  refine ⟨fun i s => ?_, step_completes⟩
  obtain ⟨u, st, res, hexec⟩ := exec_eq_respond i s
  exact ⟨u.respond st res, res, hexec, statusCode_toNat_le st, rfl⟩

/-- Settles O10: a status other than 0 comes from a raised fault, and `State.raise` writes STATUS and the response. -/
theorem faultingCommandsOnlyWriteStatus : Obligations.FaultingCommandsOnlyWriteStatus := by
  unfold Obligations.FaultingCommandsOnlyWriteStatus
  intro i s t h hfault
  rcases exec_cases h with ⟨C, res, -, rfl⟩ | ⟨st, -, rfl⟩
  · exact absurd (State.complete_status _ res) hfault
  · rfl

/-! ## The order of the causes (R270) -/

/-- Taking a command from the queue changes nothing its status depends on. -/
theorem expectedStatus_take (i : Instr) (s : State) (rest : List Command) :
    expectedStatus i (s.take rest) = expectedStatus i s := by
  rw [← bodyStatus_commandBody, State.ctxOf_take, bodyStatus_commandBody]

/-- A step that takes a command leaves the code of the first cause that applies to it. -/
theorem step_status {s t : State} {c : Command} {rest : List Command} (hpending : s.pending = c :: rest)
    (h : step s = .next t) : t.status = statusCode (expectedCommandStatus c s) := by
  unfold expectedCommandStatus
  cases hdecode : decode c with
  | error r =>
    obtain rfl := Host.Outcome.next.inj ((step_of_decode_error hpending hdecode).symm.trans h)
    rfl
  | ok i =>
    rw [exec_status ((step_of_decode_ok hpending hdecode).symm.trans h), expectedStatus_take]

/-- Settles O9: by `step_status`; the statement writes the codes of R260 out. -/
theorem statusIsTheFirstCauseThatApplies : Obligations.StatusIsTheFirstCauseThatApplies := by
  unfold Obligations.StatusIsTheFirstCauseThatApplies
  intro s t c rest hpending h
  exact step_status hpending h

end Sys2Proof.Machine
end

section
/-! The statement about waiting for a command (70_reset_and_hazards.md R291, log 7). -/

namespace Sys2Proof.Machine

/-- Settles O6: the equation of `step` for an empty queue, beside `step_of_decode_ok` and `step_of_decode_error` for a
pending command. -/
theorem stepWaitsWithNothingPending : Obligations.StepWaitsWithNothingPending := by
  unfold Obligations.StepWaitsWithNothingPending
  intro s hpending
  simp only [step, hpending]

end Sys2Proof.Machine
end
